-- ==== Sys2Proof/Word.lean ====
section
/-! DEFINITION. The value types of the decoder (00_scope.md R10): bytes, codes, colours and the enumerations. -/

namespace Sys2Proof

/-- One byte of PAGE or of the font asset (R10 `Byte`). -/
abbrev Byte := BitVec 8

/-- A 7-bit character code (R10 `Code`). -/
abbrev Code := BitVec 7

/-- A 3-bit colour: bit 0 red, bit 1 green, bit 2 blue (R10 `Colour`, R73). -/
abbrev Colour := BitVec 3

/-- Colour 0 (R10). -/
def black : Colour := 0

/-- Colour 7 (R10). -/
def white : Colour := 7

/-- The render mode of a glyph lookup (R10, 20_memory.md R44). -/
inductive RenderMode where
  | normal
  | graphics
  | thinGraphics
deriving DecidableEq, Repr

/-- The height slot of a glyph lookup (R10, 20_memory.md R44). -/
inductive HeightSlot where
  | standard
  | upper
  | lower
deriving DecidableEq, Repr

/-- What a sixel `set` does to its bit (R10, 41_sixel_addressing.md R115 to R117). -/
inductive SetMode where
  | on
  | off
  | toggle
deriving DecidableEq, Repr

/-- The operating state of the block (10_state.md R30). -/
inductive OpState where
  | unbuilt
  | ready
  | rendering
  | failed
deriving DecidableEq, Repr

/-- The error of the most recent build or render request (10_state.md R30, 60_exceptions.md R234). -/
inductive ErrorCode where
  | none
  | assetLoadError
  | invalidInput
deriving DecidableEq, Repr

end Sys2Proof
end

