-- ==== Sys2Proof/Syntax.lean ====
section
/-! DEFINITION. The instruction set (30_encoding.md R75): one constructor per row of spec/opcode_table.json. -/

namespace Sys2Proof

/-- The 32 control codes and the three display classes (R75). The operand of a display instruction is the whole
7-bit code (44_display_codes.md R200). -/
inductive Instr where
  | nop00
  | alphaRed
  | alphaGreen
  | alphaYellow
  | alphaBlue
  | alphaMagenta
  | alphaCyan
  | alphaWhite
  | flashOn
  | flashOff
  | nop0A
  | nop0B
  | normalHeight
  | doubleHeight
  | nop0E
  | nop0F
  | nop10
  | gfxRed
  | gfxGreen
  | gfxYellow
  | gfxBlue
  | gfxMagenta
  | gfxCyan
  | gfxWhite
  | nop18
  | contiguousGfx
  | separatedGfx
  | nop1B
  | blackBg
  | newBg
  | holdGfx
  | releaseGfx
  | dispG0 (code : Code)
  | dispT (code : Code)
  | dispG1 (code : Code)
deriving DecidableEq, Repr

end Sys2Proof
end

