-- ==== Sys2Proof/WellFormed.lean ====
section
/-! DEFINITION. Which terms of Instr are instructions of the hardware: a display code lies in its class (R71). -/

namespace Sys2Proof

/-- The class of a code, `code[6:5]` (30_encoding.md R71). -/
def classOf (c : Code) : BitVec 2 := c.extractLsb' 5 2

/-- A control instruction has no operand and is always well formed; a display instruction carries a code of its own
class: `01`, `10`, `11` for `DISP_G0`, `DISP_T`, `DISP_G1` (R71, R201 to R203). -/
def Instr.wf : Instr → Bool
  | .nop00 => true
  | .alphaRed => true
  | .alphaGreen => true
  | .alphaYellow => true
  | .alphaBlue => true
  | .alphaMagenta => true
  | .alphaCyan => true
  | .alphaWhite => true
  | .flashOn => true
  | .flashOff => true
  | .nop0A => true
  | .nop0B => true
  | .normalHeight => true
  | .doubleHeight => true
  | .nop0E => true
  | .nop0F => true
  | .nop10 => true
  | .gfxRed => true
  | .gfxGreen => true
  | .gfxYellow => true
  | .gfxBlue => true
  | .gfxMagenta => true
  | .gfxCyan => true
  | .gfxWhite => true
  | .nop18 => true
  | .contiguousGfx => true
  | .separatedGfx => true
  | .nop1B => true
  | .blackBg => true
  | .newBg => true
  | .holdGfx => true
  | .releaseGfx => true
  | .dispG0 c => classOf c == 0b01#2
  | .dispT c => classOf c == 0b10#2
  | .dispG1 c => classOf c == 0b11#2

end Sys2Proof
end

