-- ==== Sys2Proof/Decode.lean ====
section
/-! DEFINITION. The decoder and the encoder of a PAGE byte (30_encoding.md R70 to R78). -/

namespace Sys2Proof

/-- Why no instruction is read. R77 says no byte is illegal: `noRow` never happens (an obligation says so). -/
inductive DecodeError where
  | noByte
  | noRow (b : Byte)
deriving DecidableEq, Repr

/-- One row of the opcode map: the byte matches when its masked bits are `pattern` (R75). -/
structure OpcodeRow where
  pattern : Byte
  mask : Byte
  instr : Code → Instr

/-- The masked 7-bit code of a byte, `byte[6:0]` (R70, R78, 42_cell_pipeline.md R132). -/
def codeOf (b : Byte) : Code := b.setWidth 7

/-- The rows of the codes 0 to 15 (R75). -/
def opcodeRowsLow : List OpcodeRow :=
  [ ⟨0x00, 0x7F, fun _ => .nop00⟩,
    ⟨0x01, 0x7F, fun _ => .alphaRed⟩,
    ⟨0x02, 0x7F, fun _ => .alphaGreen⟩,
    ⟨0x03, 0x7F, fun _ => .alphaYellow⟩,
    ⟨0x04, 0x7F, fun _ => .alphaBlue⟩,
    ⟨0x05, 0x7F, fun _ => .alphaMagenta⟩,
    ⟨0x06, 0x7F, fun _ => .alphaCyan⟩,
    ⟨0x07, 0x7F, fun _ => .alphaWhite⟩,
    ⟨0x08, 0x7F, fun _ => .flashOn⟩,
    ⟨0x09, 0x7F, fun _ => .flashOff⟩,
    ⟨0x0A, 0x7F, fun _ => .nop0A⟩,
    ⟨0x0B, 0x7F, fun _ => .nop0B⟩,
    ⟨0x0C, 0x7F, fun _ => .normalHeight⟩,
    ⟨0x0D, 0x7F, fun _ => .doubleHeight⟩,
    ⟨0x0E, 0x7F, fun _ => .nop0E⟩,
    ⟨0x0F, 0x7F, fun _ => .nop0F⟩ ]

/-- The rows of the codes 16 to 31 (R75). -/
def opcodeRowsHigh : List OpcodeRow :=
  [ ⟨0x10, 0x7F, fun _ => .nop10⟩,
    ⟨0x11, 0x7F, fun _ => .gfxRed⟩,
    ⟨0x12, 0x7F, fun _ => .gfxGreen⟩,
    ⟨0x13, 0x7F, fun _ => .gfxYellow⟩,
    ⟨0x14, 0x7F, fun _ => .gfxBlue⟩,
    ⟨0x15, 0x7F, fun _ => .gfxMagenta⟩,
    ⟨0x16, 0x7F, fun _ => .gfxCyan⟩,
    ⟨0x17, 0x7F, fun _ => .gfxWhite⟩,
    ⟨0x18, 0x7F, fun _ => .nop18⟩,
    ⟨0x19, 0x7F, fun _ => .contiguousGfx⟩,
    ⟨0x1A, 0x7F, fun _ => .separatedGfx⟩,
    ⟨0x1B, 0x7F, fun _ => .nop1B⟩,
    ⟨0x1C, 0x7F, fun _ => .blackBg⟩,
    ⟨0x1D, 0x7F, fun _ => .newBg⟩,
    ⟨0x1E, 0x7F, fun _ => .holdGfx⟩,
    ⟨0x1F, 0x7F, fun _ => .releaseGfx⟩ ]

/-- The rows of the three display classes (R75). -/
def opcodeRowsDisplay : List OpcodeRow :=
  [ ⟨0x20, 0x60, .dispG0⟩,
    ⟨0x40, 0x60, .dispT⟩,
    ⟨0x60, 0x60, .dispG1⟩ ]

/-- The opcode map, complete: 35 rows (R75). -/
def opcodeRows : List OpcodeRow := opcodeRowsLow ++ opcodeRowsHigh ++ opcodeRowsDisplay

/-- Whether a byte matches a row (R75). -/
def rowMatches (b : Byte) (r : OpcodeRow) : Bool := b &&& r.mask == r.pattern

/-- The instruction of one PAGE byte (R75): the row it matches, applied to its code. -/
def decodeByte (b : Byte) : Except DecodeError Instr :=
  match opcodeRows.find? (rowMatches b) with
  | some r => .ok (r.instr (codeOf b))
  | none => .error (.noRow b)

/-- The instruction at the head of a list of bytes, and the bytes after it: every instruction is one byte (R70, R79). -/
def decode : List Byte → Except DecodeError (Instr × List Byte)
  | [] => .error .noByte
  | b :: rest =>
    match decodeByte b with
    | .ok i => .ok (i, rest)
    | .error e => .error e

/-- The code of an instruction: the code column of R75 for a control code, the operand for a display code. -/
def instrCode : Instr → Code
  | .nop00 => 0
  | .alphaRed => 1
  | .alphaGreen => 2
  | .alphaYellow => 3
  | .alphaBlue => 4
  | .alphaMagenta => 5
  | .alphaCyan => 6
  | .alphaWhite => 7
  | .flashOn => 8
  | .flashOff => 9
  | .nop0A => 10
  | .nop0B => 11
  | .normalHeight => 12
  | .doubleHeight => 13
  | .nop0E => 14
  | .nop0F => 15
  | .nop10 => 16
  | .gfxRed => 17
  | .gfxGreen => 18
  | .gfxYellow => 19
  | .gfxBlue => 20
  | .gfxMagenta => 21
  | .gfxCyan => 22
  | .gfxWhite => 23
  | .nop18 => 24
  | .contiguousGfx => 25
  | .separatedGfx => 26
  | .nop1B => 27
  | .blackBg => 28
  | .newBg => 29
  | .holdGfx => 30
  | .releaseGfx => 31
  | .dispG0 c => c
  | .dispT c => c
  | .dispG1 c => c

/-- The bytes of an instruction: one byte, the ignored bit 7 written 0 (R70). -/
def encode (i : Instr) : List Byte := [(instrCode i).setWidth 8]

/-- The bits `w` of a row of spec/opcode_table.json, laid out as the hardware stores them: one PAGE byte (R70). Bits from
`nbits` up are 0. -/
def tableByte (nbits w : Nat) : Byte := BitVec.ofNat 8 (w % 2 ^ nbits)

/-- The instruction the decoder reads from the bits `w` of a row of spec/opcode_table.json. -/
def decodeTableWord (nbits w : Nat) : Option Instr :=
  match decode [tableByte nbits w] with
  | .ok (i, _) => some i
  | .error _ => none

end Sys2Proof
end

