-- ==== Sys2Proof/Config.lean ====
section
/-! DEFINITION. The fixed parameters of the hardware (00_scope.md R6) and its open ones (R7). -/

namespace Sys2Proof.Config

/-- `W`, page columns (R6). -/
abbrev pageCols : Nat := 40

/-- `H`, page rows (R6). -/
abbrev pageRows : Nat := 25

/-- `GW`, glyph width in pixels (R6). -/
abbrev glyphWidth : Nat := 12

/-- `GH`, glyph height in pixels (R6). -/
abbrev glyphHeight : Nat := 18

/-- `RW`, raster width in pixels (R6). -/
abbrev rasterWidth : Nat := 480

/-- `RH`, raster height in pixels (R6). -/
abbrev rasterHeight : Nat := 450

/-- The number of PAGE locations (20_memory.md R40). -/
abbrev pageBytes : Nat := 1000

/-- `FONT_BYTES`, the length of the font asset (R6). -/
abbrev fontBytes : Nat := 3456

/-- `NICONS`, the number of control icons (R6). -/
abbrev iconCount : Nat := 32

/-- The number of ICON locations (20_memory.md R40). -/
abbrev iconBits : Nat := 6912

/-- `SPACE`, the code of the flash substitution (R6). -/
def spaceCode : Code := 32

/-- `BLANK_CODE`, the code shown by a control cell that holds nothing (R6). -/
def blankCode : Code := 0

/-- The pixel columns and rows that ThinGraphics forces to background (R7 `SEP_COLS`, `SEP_ROWS`). -/
structure Separators where
  cols : Nat → Bool
  rows : Nat → Bool

/-- OPEN parameter `SEP_COLS` (R7, 92_eei_decisions.md D8): no value is chosen, nothing can be proved of it. -/
opaque sepCols : Nat → Bool

/-- OPEN parameter `SEP_ROWS` (R7, 92_eei_decisions.md D8): no value is chosen, nothing can be proved of it. -/
opaque sepRows : Nat → Bool

/-- OPEN parameter `CHANNEL_FULL` (R7, 92_eei_decisions.md D5): no value is chosen, nothing can be proved of it. -/
opaque channelFull : Nat

/-- The separators of this machine. -/
def separators : Separators := { cols := sepCols, rows := sepRows }

/-- The default separators of R7: column 6, rows 6 and 12. The machine does not use them: they serve the spec's vectors. -/
def defaultSeparators : Separators := { cols := fun px => px == 6, rows := fun py => py == 6 || py == 12 }

end Sys2Proof.Config
end

