-- ==== Sys2Proof/Machine/Operands.lean ====
section
/-! DEFINITION. Operand fields of a code, the numbers of the enumerations, and the linear addresses of the memory
spaces (30_encoding.md R72 to R74, R82, R83; 20_memory.md R41 to R45). -/

namespace Sys2Proof.Machine

/-- The colour operand `code[2:0]` of a colour code (R72, R73). -/
def colourField (c : Code) : Colour := c.extractLsb' 0 3

/-- The `gfx` field `code[4]` of a colour code (R72). -/
def gfxField (c : Code) : Bool := c.getLsbD 4

/-- The marker `code[5]` of a graphics-capable code (R71, R74). -/
def graphicsCapable (c : Code) : Bool := c.getLsbD 5

/-- The intensity of one colour channel when RASTER is read as multi-bit RGB (20_memory.md R45). -/
def channelIntensity (bit : Bool) : Nat := if bit then Config.channelFull else 0

/-- The multi-bit RGB view of a colour: bit 0 red, bit 1 green, bit 2 blue (R73, 20_memory.md R45). -/
def rgbView (c : Colour) : Nat × Nat × Nat :=
  (channelIntensity (c.getLsbD 0), channelIntensity (c.getLsbD 1), channelIntensity (c.getLsbD 2))

/-- The number of a render mode (R83). -/
def modeNumber : RenderMode → Nat
  | .normal => 0
  | .graphics => 1
  | .thinGraphics => 2

/-- The number of a height slot (R83). -/
def slotNumber : HeightSlot → Nat
  | .standard => 0
  | .upper => 1
  | .lower => 2

/-- The number of a set mode (R83). -/
def setModeNumber : SetMode → Nat
  | .on => 0
  | .off => 1
  | .toggle => 2

/-- The value of the status field `opstate` as the host reads it (10_state.md R30). -/
def opstateNumber : OpState → BitVec 2
  | .unbuilt => 0
  | .ready => 1
  | .rendering => 2
  | .failed => 3

/-- The value of the status field `err` as the host reads it (10_state.md R30, 60_exceptions.md R234). -/
def errNumber : ErrorCode → BitVec 2
  | .none => 0
  | .assetLoadError => 1
  | .invalidInput => 2

/-- The PAGE address of a cell, which is also the linear scan position (20_memory.md R41, 10_state.md R25). -/
def pageAddr (row col : Nat) : Nat := 40 * row + col

/-- The FONT address of byte `c` of a font row; byte `d` follows it (20_memory.md R42). -/
def fontAddr (code : Code) (y : Nat) : Nat := 36 * (code.toNat - 32) + 2 * y

/-- The ICON address of a mask bit (20_memory.md R43). -/
def iconAddr (k py px : Nat) : Nat := 216 * k + 12 * py + px

/-- The entry number of a glyph (20_memory.md R44). -/
def glyphIndex (code : Code) (mode : RenderMode) (slot : HeightSlot) : Nat :=
  (code.toNat * 3 + modeNumber mode) * 3 + slotNumber slot

/-- The page byte whose six sixel bits are given, sub-cell index 5 first (30_encoding.md R74, R85). -/
def mosaicByte (b5 b4 b3 b2 b1 b0 : Bool) : Byte :=
  0x20#8 + 64 * (BitVec.ofBool b5).setWidth 8 + 16 * (BitVec.ofBool b4).setWidth 8 + 8 * (BitVec.ofBool b3).setWidth 8
    + 4 * (BitVec.ofBool b2).setWidth 8 + 2 * (BitVec.ofBool b1).setWidth 8 + (BitVec.ofBool b0).setWidth 8

end Sys2Proof.Machine
end

