-- ==== Sys2Proof/Machine/Memory.lean ====
section
/-! DEFINITION. The memory spaces as plain data (20_memory.md R40): lists of (address, content) pairs in one canonical
form, with the reads and writes every later definition goes through. -/

namespace Sys2Proof.Machine

/-- A memory of bytes: PAGE and FONT (20_memory.md R41, R42). -/
abbrev Memory := List Host.Cell

/-- A memory of bits: ICON (20_memory.md R43). -/
abbrev BitMemory := List (Nat × Bool)

/-- What address `a` holds in a list of pairs, if it is listed. -/
def storeFind {α : Type} : List (Nat × α) → Nat → Option α
  | [], _ => none
  | (k, v) :: m, a => if k = a then some v else storeFind m a

/-- List `v` at address `a`, in place of what was listed there, keeping addresses rising. -/
def storePut {α : Type} : List (Nat × α) → Nat → α → List (Nat × α)
  | [], a, v => [(a, v)]
  | (k, w) :: m, a, v =>
    if a < k then (a, v) :: (k, w) :: m
    else if a = k then (a, v) :: m
    else (k, w) :: storePut m a v

/-- Unlist address `a`. -/
def storeErase {α : Type} (m : List (Nat × α)) (a : Nat) : List (Nat × α) := m.filter fun e => e.1 ≠ a

/-- The contents `vs` laid out from address `a`, the value `d` that an unlisted address reads as left out. -/
def storeLoad {α : Type} [DecidableEq α] (d : α) : Nat → List α → List (Nat × α)
  | _, [] => []
  | a, v :: vs => if v = d then storeLoad d (a + 1) vs else (a, v) :: storeLoad d (a + 1) vs

/-- Addresses strictly rise. -/
abbrev storeSorted {α : Type} (m : List (Nat × α)) : Prop := (m.map Prod.fst).Pairwise (· < ·)

/-- What a byte of PAGE or FONT reads as when nothing is listed for it. DESIGN CHOICE (log 5 for PAGE, log 6 for FONT):
the spec gives no content before the host writes it (91_not_in_source.md N22, R260). Unsafe. -/
def unlistedByte : Byte := 0x00

/-- `MemRead` of a byte space (00_scope.md R9). -/
def memRead (m : Memory) (a : Nat) : Byte := (storeFind m a).getD unlistedByte

/-- `MemWrite` of a byte space (00_scope.md R9): writing what an unlisted address reads as removes the entry. -/
def memWrite (m : Memory) (a : Nat) (v : Byte) : Memory :=
  if v = unlistedByte then storeErase m a else storePut m a v

/-- Consecutive bytes written from address `a`. -/
def memWriteList (m : Memory) (a : Nat) : List Byte → Memory
  | [] => m
  | v :: vs => memWriteList (memWrite m a v) (a + 1) vs

/-- The bytes of an asset laid out from address 0 (20_memory.md R42). -/
def memLoad (bs : List Byte) : Memory := storeLoad unlistedByte 0 bs

/-- The canonical form of a byte memory of `n` locations: addresses strictly rise, none is outside the space, no entry
is what an unlisted address reads as. -/
abbrev Memory.wf (n : Nat) (m : Memory) : Prop :=
  storeSorted m ∧ ∀ e ∈ m, e.1 < n ∧ e.2 ≠ unlistedByte

/-- What a bit of ICON reads as when nothing is listed for it: 0. DESIGN CHOICE, log 6. -/
def bitRead (m : BitMemory) (a : Nat) : Bool := (storeFind m a).getD false

/-- The bits of an asset laid out from address 0 (20_memory.md R43). -/
def bitLoad (bs : List Bool) : BitMemory := storeLoad false 0 bs

/-- The canonical form of a bit memory of `n` locations. -/
abbrev BitMemory.wf (n : Nat) (m : BitMemory) : Prop :=
  storeSorted m ∧ ∀ e ∈ m, e.1 < n ∧ e.2 ≠ false

end Sys2Proof.Machine
end

