-- ==== Sys2Proof/Machine/State.lean ====
section
/-! DEFINITION. The machine's state (10_state.md R19), its stops, and the state after reset (R33). -/

namespace Sys2Proof.Machine

/-- The nine RowState fields (10_state.md R20). -/
structure RowState where
  separatedGraphics : Bool
  holdGraphics : Bool
  graphicsOn : Bool
  doubleHeight : Bool
  nextDoubleHeight : Bool
  flash : Bool
  foreground : Colour
  background : Colour
  lastGraphicCode : Code
deriving DecidableEq, Repr

/-- The 18 rows of 12 pixels of one cell's rectangle of RASTER (20_memory.md R45). -/
abbrev CellImage := List (List Colour)

/-- What the host can ask of the block, and its direct PAGE writes (45_host_operations.md R210, R218). -/
inductive Request where
  /-- `BUILD` with the font bytes and the icon masks, each possibly absent (R217). -/
  | build (font : Option (List Byte)) (icons : Option (List (List (List Bool))))
  /-- `RENDER` with the claimed dimensions and the two flags (R211). -/
  | render (pageW pageH : Nat) (showCtrl flashVisible : Bool)
  /-- `glyphCellPixelSize` (R212). -/
  | glyphCellPixelSize
  /-- `characterCellPixelBounds` of a sub-cell coordinate (R213). -/
  | characterCellPixelBounds (subX subY : Nat)
  /-- `sixelPixelBounds` of a sub-cell coordinate (R214). -/
  | sixelPixelBounds (subX subY : Nat)
  /-- The sixel `get` port (R215). -/
  | sixelGet (x y : Nat)
  /-- The sixel `set` port (R216). -/
  | sixelSet (x y : Nat) (mode : SetMode)
  /-- A direct PAGE write of the host: bytes from an address (R218, 20_memory.md R40). -/
  | pageWrite (addr : Nat) (bytes : List Byte)
deriving DecidableEq, Repr

/-- What the host is answered (R210 "answered by", R218 "host gets back"). -/
inductive Reply where
  /-- A successful `BUILD`. -/
  | ready
  /-- A completed `RENDER` (R219). -/
  | completed
  /-- An error raised by `BUILD` or `RENDER` (60_exceptions.md R230). -/
  | error (e : ErrorCode)
  /-- A size in pixels. -/
  | size (width height : Nat)
  /-- A rectangle: top-left corner and size. -/
  | rect (x y width height : Nat)
  /-- The bit a sixel `get` reads. -/
  | bit (b : Bool)
  /-- A write of PAGE is done. -/
  | done
  /-- The request was refused: it had no effect (92_eei_decisions.md D18, D29). -/
  | refused
deriving DecidableEq, Repr

/-- The state of the machine (10_state.md R19), the memories the host loads (20_memory.md R40), and the host's moves. -/
structure State where
  /-- RowState (R20). -/
  rs : RowState
  /-- The row-constant latch `bottom_half` (R21). -/
  bottomHalf : Bool
  /-- The one bit that crosses a row boundary (R22). -/
  carry : Bool
  /-- The row of the scan position (R25). -/
  row : Fin 25
  /-- The column of the scan position (R25). -/
  col : Fin 40
  /-- The latched input `show_ctrl` (R29). -/
  showCtrl : Bool
  /-- The latched input `flash_visible` (R29). -/
  flashVisible : Bool
  /-- The latched input `page_w` (R29). -/
  pageW : Nat
  /-- The latched input `page_h` (R29). -/
  pageH : Nat
  /-- The operating state (R30). -/
  opstate : OpState
  /-- The error of the most recent build or render request (R30). -/
  err : ErrorCode
  /-- PAGE (20_memory.md R41). -/
  page : Memory
  /-- FONT (20_memory.md R42), loaded by BUILD. -/
  font : Memory
  /-- ICON (20_memory.md R43), loaded by BUILD. -/
  icon : BitMemory
  /-- RASTER (20_memory.md R45), by cell: the image of cell `(row, col)` is listed at `40·row + col` (log 7). -/
  raster : List (Nat × CellImage)
  /-- MODEL's own (log 2): the host's requests to come, oldest first. -/
  requests : List Request
  /-- MODEL's own (log 2): what the host was last answered. -/
  reply : Option Reply
deriving DecidableEq, Repr

/-- Why a step stops with a fault. -/
inductive Fault where
  /-- Raised by a host PAGE write that reaches an address which does not exist (20_memory.md R41: 0..999 exist,
  "no other address exists"). Safe: the spec gives such a write no meaning. No code raises it (R239). -/
  | noSuchPageAddress (addr : Nat)
deriving DecidableEq, Repr

/-- Why a step has no meaning. -/
inductive Refusal where
  /-- Raised by an arm of exec whose instruction has no meaning yet; no arm does. Safe. -/
  | notModelled (mnemonic : String)
  /-- Raised by a fetch whose byte matches no row of the opcode map; 30_encoding.md R77 says there is none, and an
  obligation states that it never happens. Safe. -/
  | noOpcodeRow (b : Byte)
deriving DecidableEq, Repr

/-- The machine after reset (10_state.md R33, 70_reset_and_hazards.md R260): `opstate = UNBUILT`, `err = None`, the
memories with nothing listed. Every other value is unspecified by the spec and named in log 4 (DESIGN CHOICE, unsafe):
RowState as at a row start, zero elsewhere. -/
def State.reset : State :=
  { rs :=
      { separatedGraphics := false
        holdGraphics := false
        graphicsOn := false
        doubleHeight := false
        nextDoubleHeight := false
        flash := false
        foreground := white
        background := black
        lastGraphicCode := 0 }
    bottomHalf := false
    carry := false
    row := 0
    col := 0
    showCtrl := false
    flashVisible := false
    pageW := 0
    pageH := 0
    opstate := .unbuilt
    err := .none
    page := []
    font := []
    icon := []
    raster := []
    requests := []
    reply := none }

end Sys2Proof.Machine
end

