-- ==== Sys2Proof/Machine/Flags.lean ====
section
/-! DEFINITION. What the flags of RowState decide in a cell: substitution, height slot, render mode, record, flash
(42_cell_pipeline.md R134 to R138). -/

namespace Sys2Proof.Machine

/-- RowState at the start of a row whose carried-in value is `carry` (10_state.md R20, R23). -/
def rowStartState (carry : Bool) : RowState :=
  { separatedGraphics := false
    holdGraphics := false
    graphicsOn := false
    doubleHeight := carry
    nextDoubleHeight := false
    flash := false
    foreground := white
    background := black
    lastGraphicCode := 0 }

/-- The code a control cell shows: the held graphic or blank, from RowState AFTER the code's own effect (R134). -/
def substitutedCode (rs : RowState) : Code :=
  if rs.holdGraphics && rs.graphicsOn then rs.lastGraphicCode else Config.blankCode

/-- Step 3: the height slot, or none when the cell is suppressed (R135). -/
def heightSlot (doubleHeight bottomHalf : Bool) : Option HeightSlot :=
  if doubleHeight then some (if bottomHalf then .lower else .upper)
  else if bottomHalf then none
  else some .standard

/-- Step 4: the render mode (R136). -/
def renderMode (graphicsOn separatedGraphics : Bool) : RenderMode :=
  if !graphicsOn then .normal
  else if separatedGraphics then .thinGraphics
  else .graphics

/-- Step 5: a graphics-capable code met in graphics mode is recorded, rendered or not (R137). -/
def recordGraphic (code : Code) (rs : RowState) : RowState :=
  if rs.graphicsOn && graphicsCapable code then { rs with lastGraphicCode := code } else rs

/-- Step 6: the flash substitution (R138). -/
def flashedCode (rs : RowState) (flashVisible : Bool) (code : Code) : Code :=
  if rs.flash && !flashVisible then Config.spaceCode else code

end Sys2Proof.Machine
end

