-- ==== Sys2Proof/Machine/Sixel.lean ====
section
/-! DEFINITION. SixelAddressing (41_sixel_addressing.md): the bit of a sub-cell, and `get` and `set` on PAGE. -/

namespace Sys2Proof.Machine

/-- The bit position of a sub-cell index: the explicit 6-entry lookup, index 5 is bit 6 (R111). No other index exists. -/
def sixelBit (i : Nat) : Nat := [0, 1, 2, 3, 4, 6].getD i 0

/-- The sub-cell index of a sub-cell coordinate inside its cell (R110). -/
def sixelIndex (x y : Nat) : Nat := x % 2 + 2 * (y % 3)

/-- The PAGE address of the cell of a sub-cell coordinate (R112). -/
def sixelCell (x y : Nat) : Nat := pageAddr (y / 3) (x / 2)

/-- `SixelAddr`: page address and bit position (R113). -/
def sixelAddr (x y : Nat) : Nat × Nat := (sixelCell x y, sixelBit (sixelIndex x y))

/-- The legal sub-cell coordinates (R112, 20_memory.md R50). -/
def sixelLegal (x y : Nat) : Bool := decide (x ≤ 79 ∧ y ≤ 74)

/-- What a set mode does to bit `b` of a byte (R115 to R117). -/
def applySetMode (mode : SetMode) (v : Byte) (b : Nat) : Byte :=
  match mode with
  | .on => v ||| (1#8 <<< b)
  | .off => v &&& ~~~(1#8 <<< b)
  | .toggle => v ^^^ (1#8 <<< b)

/-- `get(x, y)` on a page (R114). -/
def sixelGet (page : Memory) (x y : Nat) : Bool :=
  (memRead page (sixelAddr x y).1).getLsbD (sixelAddr x y).2

/-- `set(x, y, mode)` on a page: one byte read, one bit changed, the byte written back (R115 to R117). -/
def sixelSet (page : Memory) (x y : Nat) (mode : SetMode) : Memory :=
  memWrite page (sixelAddr x y).1 (applySetMode mode (memRead page (sixelAddr x y).1) (sixelAddr x y).2)

end Sys2Proof.Machine
end

