-- ==== Sys2Proof/Machine/Glyph.lean ====
section
/-! DEFINITION. GlyphSet (40_glyphset.md): literal glyphs from FONT, mosaics from a code's bits, height variants, and
the lookup by (code, mode, slot). A bitmap is read `B py px`. The table is computed on the fly (20_memory.md R44, log 10). -/

namespace Sys2Proof.Machine

/-- A glyph bitmap `B[py][px]`: true draws foreground (00_scope.md R10). -/
abbrev Bitmap := Nat → Nat → Bool

/-- The blank glyph (R104). -/
def blankGlyph : Bitmap := fun _ _ => false

/-- Byte `c` of a font row (R91, 20_memory.md R42). -/
def fontC (font : Memory) (code : Code) (y : Nat) : Byte := memRead font (fontAddr code y)

/-- Byte `d` of a font row (R91, 20_memory.md R42). -/
def fontD (font : Memory) (code : Code) (y : Nat) : Byte := memRead font (fontAddr code y + 1)

/-- One font row unpacked: ten used columns, the others 0 (R92). -/
def fontRow (c d : Byte) (px : Nat) : Bool :=
  if px = 0 then d.getLsbD 1
  else if px = 1 then d.getLsbD 0
  else if px ≤ 9 then c.getLsbD (9 - px)
  else false

/-- The literal glyph of a code: its font record, or blank for a control code (R93, R94). -/
def literal (font : Memory) (code : Code) : Bitmap := fun py px =>
  if code.toNat < 32 then false else fontRow (fontC font code py) (fontD font code py) px

/-- The sub-cell index of a glyph pixel: six 6×6 sub-cells (R95). -/
def subCellIndex (py px : Nat) : Nat := px / 6 + 2 * (py / 6)

/-- The contiguous mosaic of a code (R96). -/
def mosaic (code : Code) : Bitmap := fun py px => code.getLsbD (sixelBit (subCellIndex py px))

/-- The separated mosaic of a code: separator columns and rows forced to background (R97). -/
def thin (sep : Config.Separators) (code : Code) : Bitmap := fun py px =>
  if sep.cols px || sep.rows py then false else mosaic code py px

/-- The Standard bitmap of a code and mode (R98). -/
def standardGlyph (sep : Config.Separators) (font : Memory) (code : Code) : RenderMode → Bitmap
  | .normal => literal font code
  | .graphics => if graphicsCapable code then mosaic code else literal font code
  | .thinGraphics => if graphicsCapable code then thin sep code else literal font code

/-- The Standard row that row `py` of a slot shows (R99). -/
def slotRow (slot : HeightSlot) (py : Nat) : Nat :=
  match slot with
  | .standard => py
  | .upper => py / 2
  | .lower => 9 + py / 2

/-- `Glyph(code, mode, slot)` (R99). -/
def glyph (sep : Config.Separators) (font : Memory) (code : Code) (mode : RenderMode) (slot : HeightSlot) : Bitmap :=
  fun py px => standardGlyph sep font code mode (slotRow slot py) px

/-- Entry `n` of the GLYPH space read by its linear number (20_memory.md R44). -/
def glyphEntry (sep : Config.Separators) (font : Memory) (n : Nat) : Bitmap :=
  glyph sep font (BitVec.ofNat 7 (n / 9))
    (if n / 3 % 3 = 0 then .normal else if n / 3 % 3 = 1 then .graphics else .thinGraphics)
    (if n % 3 = 0 then .standard else if n % 3 = 1 then .upper else .lower)

/-- A mask bit of ICON (20_memory.md R43). -/
def iconBit (icon : BitMemory) (k : Code) (py px : Nat) : Bool := bitRead icon (iconAddr k.toNat py px)

end Sys2Proof.Machine
end

