-- ==== Sys2Proof/Machine/Ops.lean ====
section
/-! DEFINITION. The operations every code and every request goes through: the fetch, the row start, the picture of a
cell, the scan advance (42_cell_pipeline.md R130 to R143, 10_state.md R22 to R27), the raising and clearing of an error
(60_exceptions.md R231, R232, R236, R237) and the answers to the host. -/

namespace Sys2Proof.Machine

/-! ## Scan position and row start -/

/-- The linear scan position (10_state.md R25). -/
def State.scan (s : State) : Nat := pageAddr s.row s.col

/-- Step 1, the fetch: the PAGE byte of the cell being processed (R132). -/
def fetchByte (s : State) : Byte := memRead s.page s.scan

/-- RowStart: the latch and the nine fields (10_state.md R23). The carry is read before anything is cleared. -/
def rowStart (s : State) : State :=
  { s with bottomHalf := s.carry, rs := rowStartState s.carry }

/-- RowStart before column 0, nothing elsewhere (10_state.md R23, R27; folded into the first cell step of a row, as
92_eei_decisions.md D1 allows; log 1). -/
def rowEntry (s : State) : State := if s.col = 0 then rowStart s else s

/-- The end of a cell step: the next cell, the next row, or the end of the frame (10_state.md R22, R26, R27). At the end
of the frame there is no next position: the scan position stays (log 12). -/
def advance (s : State) : State :=
  if h : s.col.val < 39 then
    { s with col := ⟨s.col.val + 1, Nat.succ_lt_succ h⟩ }
  else if h' : s.row.val < 24 then
    { s with carry := s.rs.nextDoubleHeight, row := ⟨s.row.val + 1, Nat.succ_lt_succ h'⟩, col := 0 }
  else
    { s with carry := s.rs.nextDoubleHeight, opstate := .ready, reply := some .completed }

/-! ## The picture of a cell -/

/-- The 18 rows of 12 values `f py px`. -/
def grid {α : Type} (f : Nat → Nat → α) : List (List α) :=
  (List.range Config.glyphHeight).map fun py => (List.range Config.glyphWidth).map fun px => f py px

/-- Pixel `(py, px)` of an image; black where the image has none, which no image of a cell lacks. -/
def pixelOf (img : CellImage) (py px : Nat) : Colour := (img.getD py []).getD px black

/-- The glyph bit of a cell: blank when suppressed, else the lookup with the current mode and slot (R135, R136, R139). -/
def glyphBit (s : State) (code : Code) : Bitmap :=
  match heightSlot s.rs.doubleHeight s.bottomHalf with
  | none => blankGlyph
  | some slot => glyph Config.separators s.font code (renderMode s.rs.graphicsOn s.rs.separatedGraphics) slot

/-- Step 7: each set glyph pixel the foreground, each unset one the background (R139). -/
def stencil (s : State) (code : Code) : CellImage :=
  grid fun py px => if glyphBit s code py px then s.rs.foreground else s.rs.background

/-- Step 8 at one pixel that step 7 left at `cur`: an unset icon pixel is flipped, with black in place of the
background when the two colours are equal (R140). -/
def overlayPixel (fg bg : Colour) (iconSet : Bool) (cur : Colour) : Colour :=
  if iconSet then cur
  else if cur = fg then (if fg = bg then black else bg)
  else fg

/-- Step 8: the control icon of `actual` over the stencilled image, when `show_ctrl` is set (R140). -/
def overlay (s : State) (actual : Code) (img : CellImage) : CellImage :=
  if s.showCtrl then
    grid fun py px =>
      overlayPixel s.rs.foreground s.rs.background (iconBit s.icon actual py px) (pixelOf img py px)
  else img

/-- Steps 7 and 8; a display cell has no icon (R139, R140, 44_display_codes.md R200). -/
def cellImage (s : State) (code : Code) (actual : Option Code) : CellImage :=
  match actual with
  | some k => overlay s k (stencil s code)
  | none => stencil s code

/-- The 216 pixels of the cell at the scan position written to RASTER (20_memory.md R45, R63). -/
def drawCell (img : CellImage) (s : State) : State := { s with raster := storePut s.raster s.scan img }

/-- `Raster[Y][X]`: the colour last written there since the frame was accepted, none if nothing was
(20_memory.md R45, 10_state.md R33; log 7). -/
def State.rasterAt (s : State) (X Y : Nat) : Option Colour :=
  if X < Config.rasterWidth ∧ Y < Config.rasterHeight then
    match storeFind s.raster (pageAddr (Y / 18) (X / 12)) with
    | some img => (img.getD (Y % 18) [])[X % 12]?
    | none => none
  else none

/-- `MemRead` of RASTER by its linear address `480·Y + X` (20_memory.md R45). -/
def State.rasterRead (s : State) (a : Nat) : Option Colour := s.rasterAt (a % Config.rasterWidth) (a / Config.rasterWidth)

/-! ## The cell step -/

/-- Steps 3 to 8 of a cell whose code after step 2 is `code`, then the advance (R135 to R143). Step 5 comes before
step 6, so the record is not affected by flashing (R148). -/
def finishCell (code : Code) (actual : Option Code) (s : State) : State :=
  let img := cellImage s (flashedCode s.rs s.flashVisible code) actual
  advance (drawCell img { s with rs := recordGraphic code s.rs })

/-- A control cell: the code's effect on RowState, which may read the bottom-half latch, then the substitution, then
steps 3 to 8 (R134, R143). -/
def controlCell (actual : Code) (effect : Bool → RowState → RowState) (s : State) :
    Host.Outcome State Fault Refusal :=
  let rs := effect s.bottomHalf s.rs
  .next (finishCell (substitutedCode rs) (some actual) { s with rs := rs })

/-- A display cell: steps 3 to 8 with the code itself (44_display_codes.md R200). -/
def displayCell (code : Code) (s : State) : Host.Outcome State Fault Refusal := .next (finishCell code none s)

/-- The effect of a colour code on RowState (30_encoding.md R72, R73). -/
def colourEffect (code : Code) (rs : RowState) : RowState :=
  { rs with foreground := colourField code, graphicsOn := gfxField code }

/-! ## Errors and answers -/

/-- The host is answered. -/
def answer (r : Reply) (s : State) : State := { s with reply := some r }

/-- Raising an error, which is this machine's only exception: `err` is written, `AssetLoadError` also fails the block
for ever, nothing else changes but the answer (60_exceptions.md R231, R232, R236). Nothing is saved and there is no
handler. -/
def raiseError (e : ErrorCode) (s : State) : State :=
  answer (.error e) { s with err := e, opstate := if e = .assetLoadError then .failed else s.opstate }

/-- The return from an error: there is no return instruction, the next accepted request clears `err`
(60_exceptions.md R237, 42_cell_pipeline.md R130). -/
def clearError (s : State) : State := { s with err := .none }

/-- A refused request has no step: nothing changes but the answer (92_eei_decisions.md D18, D29; log 3). -/
def refuse (s : State) : State := answer .refused s

end Sys2Proof.Machine
end

