-- ==== Sys2Proof/Machine/Attributes.lean ====
section
/-! DEFINITION. The ten attribute control codes: flash, height, separation, background, hold (43_control_codes.md). -/

namespace Sys2Proof.Machine

/-- `FLASH_ON`, code 8: flash on (43_control_codes.md R168). -/
def execFlashOn (s : State) : Host.Outcome State Fault Refusal :=
  controlCell 0x08#7 (fun _ rs => { rs with flash := true }) s

/-- `FLASH_OFF`, code 9: flash off (43_control_codes.md R169). -/
def execFlashOff (s : State) : Host.Outcome State Fault Refusal :=
  controlCell 0x09#7 (fun _ rs => { rs with flash := false }) s

/-- `NORMAL_HEIGHT`, code 12: the row's active flag off, not the carried one (43_control_codes.md R172). -/
def execNormalHeight (s : State) : Host.Outcome State Fault Refusal :=
  controlCell 0x0C#7 (fun _ rs => { rs with doubleHeight := false }) s

/-- `DOUBLE_HEIGHT`, code 13: the active flag on, and the next row a bottom-half row unless this row is one (43_control_codes.md R173). -/
def execDoubleHeight (s : State) : Host.Outcome State Fault Refusal :=
  controlCell 0x0D#7 (fun bottomHalf rs =>
    { rs with doubleHeight := true, nextDoubleHeight := if bottomHalf then rs.nextDoubleHeight else true }) s

/-- `CONTIGUOUS_GFX`, code 25: contiguous mosaics (43_control_codes.md R185). -/
def execContiguousGfx (s : State) : Host.Outcome State Fault Refusal :=
  controlCell 0x19#7 (fun _ rs => { rs with separatedGraphics := false }) s

/-- `SEPARATED_GFX`, code 26: separated mosaics (43_control_codes.md R186). -/
def execSeparatedGfx (s : State) : Host.Outcome State Fault Refusal :=
  controlCell 0x1A#7 (fun _ rs => { rs with separatedGraphics := true }) s

/-- `BLACK_BG`, code 28: black background (43_control_codes.md R188). -/
def execBlackBg (s : State) : Host.Outcome State Fault Refusal :=
  controlCell 0x1C#7 (fun _ rs => { rs with background := black }) s

/-- `NEW_BG`, code 29: the foreground becomes the background (43_control_codes.md R189). -/
def execNewBg (s : State) : Host.Outcome State Fault Refusal :=
  controlCell 0x1D#7 (fun _ rs => { rs with background := rs.foreground }) s

/-- `HOLD_GFX`, code 30: hold graphics on (43_control_codes.md R190). -/
def execHoldGfx (s : State) : Host.Outcome State Fault Refusal :=
  controlCell 0x1E#7 (fun _ rs => { rs with holdGraphics := true }) s

/-- `RELEASE_GFX`, code 31: hold graphics off (43_control_codes.md R191). -/
def execReleaseGfx (s : State) : Host.Outcome State Fault Refusal :=
  controlCell 0x1F#7 (fun _ rs => { rs with holdGraphics := false }) s

end Sys2Proof.Machine
end

