-- ==== Sys2Proof/Machine/Colours.lean ====
section
/-! DEFINITION. The fourteen colour control codes (30_encoding.md R72, R73; 43_control_codes.md R161 to R167, R177 to R183). -/

namespace Sys2Proof.Machine

/-- `ALPHA_RED`, code 1: foreground colour, graphics off (43_control_codes.md R161). -/
def execAlphaRed (s : State) : Host.Outcome State Fault Refusal :=
  controlCell 0x01#7 (fun _ rs => colourEffect 0x01#7 rs) s

/-- `ALPHA_GREEN`, code 2: foreground colour, graphics off (43_control_codes.md R162). -/
def execAlphaGreen (s : State) : Host.Outcome State Fault Refusal :=
  controlCell 0x02#7 (fun _ rs => colourEffect 0x02#7 rs) s

/-- `ALPHA_YELLOW`, code 3: foreground colour, graphics off (43_control_codes.md R163). -/
def execAlphaYellow (s : State) : Host.Outcome State Fault Refusal :=
  controlCell 0x03#7 (fun _ rs => colourEffect 0x03#7 rs) s

/-- `ALPHA_BLUE`, code 4: foreground colour, graphics off (43_control_codes.md R164). -/
def execAlphaBlue (s : State) : Host.Outcome State Fault Refusal :=
  controlCell 0x04#7 (fun _ rs => colourEffect 0x04#7 rs) s

/-- `ALPHA_MAGENTA`, code 5: foreground colour, graphics off (43_control_codes.md R165). -/
def execAlphaMagenta (s : State) : Host.Outcome State Fault Refusal :=
  controlCell 0x05#7 (fun _ rs => colourEffect 0x05#7 rs) s

/-- `ALPHA_CYAN`, code 6: foreground colour, graphics off (43_control_codes.md R166). -/
def execAlphaCyan (s : State) : Host.Outcome State Fault Refusal :=
  controlCell 0x06#7 (fun _ rs => colourEffect 0x06#7 rs) s

/-- `ALPHA_WHITE`, code 7: foreground colour, graphics off (43_control_codes.md R167). -/
def execAlphaWhite (s : State) : Host.Outcome State Fault Refusal :=
  controlCell 0x07#7 (fun _ rs => colourEffect 0x07#7 rs) s

/-- `GFX_RED`, code 17: foreground colour, graphics on (43_control_codes.md R177). -/
def execGfxRed (s : State) : Host.Outcome State Fault Refusal :=
  controlCell 0x11#7 (fun _ rs => colourEffect 0x11#7 rs) s

/-- `GFX_GREEN`, code 18: foreground colour, graphics on (43_control_codes.md R178). -/
def execGfxGreen (s : State) : Host.Outcome State Fault Refusal :=
  controlCell 0x12#7 (fun _ rs => colourEffect 0x12#7 rs) s

/-- `GFX_YELLOW`, code 19: foreground colour, graphics on (43_control_codes.md R179). -/
def execGfxYellow (s : State) : Host.Outcome State Fault Refusal :=
  controlCell 0x13#7 (fun _ rs => colourEffect 0x13#7 rs) s

/-- `GFX_BLUE`, code 20: foreground colour, graphics on (43_control_codes.md R180). -/
def execGfxBlue (s : State) : Host.Outcome State Fault Refusal :=
  controlCell 0x14#7 (fun _ rs => colourEffect 0x14#7 rs) s

/-- `GFX_MAGENTA`, code 21: foreground colour, graphics on (43_control_codes.md R181). -/
def execGfxMagenta (s : State) : Host.Outcome State Fault Refusal :=
  controlCell 0x15#7 (fun _ rs => colourEffect 0x15#7 rs) s

/-- `GFX_CYAN`, code 22: foreground colour, graphics on (43_control_codes.md R182). -/
def execGfxCyan (s : State) : Host.Outcome State Fault Refusal :=
  controlCell 0x16#7 (fun _ rs => colourEffect 0x16#7 rs) s

/-- `GFX_WHITE`, code 23: foreground colour, graphics on (43_control_codes.md R183). -/
def execGfxWhite (s : State) : Host.Outcome State Fault Refusal :=
  controlCell 0x17#7 (fun _ rs => colourEffect 0x17#7 rs) s

end Sys2Proof.Machine
end

