-- ==== Sys2Proof/Machine/Display.lean ====
section
/-! DEFINITION. The three display classes (44_display_codes.md R200 to R203). -/

namespace Sys2Proof.Machine

/-- `DISP_G0`, a graphics-capable code 32..63: the glyph of the code itself (44_display_codes.md R201). -/
def execDispG0 (code : Code) (s : State) : Host.Outcome State Fault Refusal := displayCell code s

/-- `DISP_T`, a text-only code 64..95: the glyph of the code itself (44_display_codes.md R202). -/
def execDispT (code : Code) (s : State) : Host.Outcome State Fault Refusal := displayCell code s

/-- `DISP_G1`, a graphics-capable code 96..127: the glyph of the code itself (44_display_codes.md R203). -/
def execDispG1 (code : Code) (s : State) : Host.Outcome State Fault Refusal := displayCell code s

end Sys2Proof.Machine
end

