-- ==== Sys2Proof/Machine/Nops.lean ====
section
/-! DEFINITION. The eight no-op control codes (30_encoding.md R76, 43_control_codes.md). -/

namespace Sys2Proof.Machine

/-- `NOP_00`, code 0: a defined no-op on RowState; the cell shows the held graphic or blank (43_control_codes.md R160). -/
def execNop00 (s : State) : Host.Outcome State Fault Refusal :=
  controlCell 0x00#7 (fun _ rs => rs) s

/-- `NOP_0A`, code 10: a defined no-op on RowState; the cell shows the held graphic or blank (43_control_codes.md R170). -/
def execNop0A (s : State) : Host.Outcome State Fault Refusal :=
  controlCell 0x0A#7 (fun _ rs => rs) s

/-- `NOP_0B`, code 11: a defined no-op on RowState; the cell shows the held graphic or blank (43_control_codes.md R171). -/
def execNop0B (s : State) : Host.Outcome State Fault Refusal :=
  controlCell 0x0B#7 (fun _ rs => rs) s

/-- `NOP_0E`, code 14: a defined no-op on RowState; the cell shows the held graphic or blank (43_control_codes.md R174). -/
def execNop0E (s : State) : Host.Outcome State Fault Refusal :=
  controlCell 0x0E#7 (fun _ rs => rs) s

/-- `NOP_0F`, code 15: a defined no-op on RowState; the cell shows the held graphic or blank (43_control_codes.md R175). -/
def execNop0F (s : State) : Host.Outcome State Fault Refusal :=
  controlCell 0x0F#7 (fun _ rs => rs) s

/-- `NOP_10`, code 16: a defined no-op on RowState; the cell shows the held graphic or blank (43_control_codes.md R176). -/
def execNop10 (s : State) : Host.Outcome State Fault Refusal :=
  controlCell 0x10#7 (fun _ rs => rs) s

/-- `NOP_18`, code 24: a defined no-op on RowState; the cell shows the held graphic or blank (43_control_codes.md R184). -/
def execNop18 (s : State) : Host.Outcome State Fault Refusal :=
  controlCell 0x18#7 (fun _ rs => rs) s

/-- `NOP_1B`, code 27: a defined no-op on RowState; the cell shows the held graphic or blank (43_control_codes.md R187). -/
def execNop1B (s : State) : Host.Outcome State Fault Refusal :=
  controlCell 0x1B#7 (fun _ rs => rs) s

end Sys2Proof.Machine
end

