-- ==== Sys2Proof/Machine/Dispatch.lean ====
section
/-! DEFINITION. The dispatch: one arm per instruction of the opcode map (30_encoding.md R75). -/

namespace Sys2Proof.Machine

def exec (i : Instr) (s : State) : Host.Outcome State Fault Refusal :=
  match i with
  | .nop00 => Sys2Proof.Machine.execNop00 s
  | .alphaRed => Sys2Proof.Machine.execAlphaRed s
  | .alphaGreen => Sys2Proof.Machine.execAlphaGreen s
  | .alphaYellow => Sys2Proof.Machine.execAlphaYellow s
  | .alphaBlue => Sys2Proof.Machine.execAlphaBlue s
  | .alphaMagenta => Sys2Proof.Machine.execAlphaMagenta s
  | .alphaCyan => Sys2Proof.Machine.execAlphaCyan s
  | .alphaWhite => Sys2Proof.Machine.execAlphaWhite s
  | .flashOn => Sys2Proof.Machine.execFlashOn s
  | .flashOff => Sys2Proof.Machine.execFlashOff s
  | .nop0A => Sys2Proof.Machine.execNop0A s
  | .nop0B => Sys2Proof.Machine.execNop0B s
  | .normalHeight => Sys2Proof.Machine.execNormalHeight s
  | .doubleHeight => Sys2Proof.Machine.execDoubleHeight s
  | .nop0E => Sys2Proof.Machine.execNop0E s
  | .nop0F => Sys2Proof.Machine.execNop0F s
  | .nop10 => Sys2Proof.Machine.execNop10 s
  | .gfxRed => Sys2Proof.Machine.execGfxRed s
  | .gfxGreen => Sys2Proof.Machine.execGfxGreen s
  | .gfxYellow => Sys2Proof.Machine.execGfxYellow s
  | .gfxBlue => Sys2Proof.Machine.execGfxBlue s
  | .gfxMagenta => Sys2Proof.Machine.execGfxMagenta s
  | .gfxCyan => Sys2Proof.Machine.execGfxCyan s
  | .gfxWhite => Sys2Proof.Machine.execGfxWhite s
  | .nop18 => Sys2Proof.Machine.execNop18 s
  | .contiguousGfx => Sys2Proof.Machine.execContiguousGfx s
  | .separatedGfx => Sys2Proof.Machine.execSeparatedGfx s
  | .nop1B => Sys2Proof.Machine.execNop1B s
  | .blackBg => Sys2Proof.Machine.execBlackBg s
  | .newBg => Sys2Proof.Machine.execNewBg s
  | .holdGfx => Sys2Proof.Machine.execHoldGfx s
  | .releaseGfx => Sys2Proof.Machine.execReleaseGfx s
  | .dispG0 code => Sys2Proof.Machine.execDispG0 code s
  | .dispT code => Sys2Proof.Machine.execDispT code s
  | .dispG1 code => Sys2Proof.Machine.execDispG1 code s

end Sys2Proof.Machine
end

