-- ==== Sys2Proof/Machine/CellStep.lean ====
section
/-! DEFINITION. The cell step of the frame in progress: fetch, decode, execute. -/

namespace Sys2Proof.Machine

/-- One cell step of the frame in progress (42_cell_pipeline.md R130, R143): RowStart before column 0, the fetch, the
instruction. No byte lacks an instruction (30_encoding.md R77). -/
def cellStep (s : State) : Host.Outcome State Fault Refusal :=
  match decode [fetchByte s] with
  | .ok (i, _) => exec i (rowEntry s)
  | .error _ => .refused (.noOpcodeRow (fetchByte s))

end Sys2Proof.Machine
end

