-- ==== Sys2Proof/Machine/Requests.lean ====
section
/-! DEFINITION. The host's requests (45_host_operations.md R211 to R218), and which operating state accepts which
(60_exceptions.md R240). -/

namespace Sys2Proof.Machine

/-- An icon mask has 18 rows of 12 pixels (40_glyphset.md R101, R102). -/
def iconGeometryOk (mask : List (List Bool)) : Bool := mask.length == 18 && mask.all fun r => r.length == 12

/-- The assets a `BUILD` accepts: font present and 3456 bytes long, icons present, 32 of them, each 12×18; in that order
(40_glyphset.md R102, 60_exceptions.md R235). -/
def acceptedAssets (font : Option (List Byte)) (icons : Option (List (List (List Bool)))) :
    Option (List Byte × List (List (List Bool))) :=
  match font with
  | none => none
  | some f =>
    if f.length ≠ Config.fontBytes then none
    else match icons with
      | none => none
      | some ks =>
        if ks.length ≠ Config.iconCount then none
        else if ks.all iconGeometryOk then some (f, ks) else none

/-- The icon masks as the bits of ICON in address order: icon, then row, then column (20_memory.md R43). -/
def iconBits (ks : List (List (List Bool))) : List Bool := (ks.map List.flatten).flatten

/-- FONT and ICON loaded, the block ready, no error (40_glyphset.md R102; err: 10_state.md R30, log 17). -/
def loadAssets (font : List Byte) (ks : List (List (List Bool))) (s : State) : State :=
  { s with font := memLoad font, icon := bitLoad (iconBits ks), opstate := .ready }

/-- `BUILD` (R217, 40_glyphset.md R102): accepted once, in `UNBUILT`. -/
def hostBuild (font : Option (List Byte)) (icons : Option (List (List (List Bool)))) (s : State) : State :=
  if s.opstate = .unbuilt then
    match acceptedAssets font icons with
    | some (f, ks) => answer .ready (clearError (loadAssets f ks s))
    | none => raiseError .assetLoadError s
  else refuse s

/-- An accepted `RENDER`: the inputs are latched, the carry cleared, the scan position is cell (0, 0), RowState is
initialised, RASTER has no value until the frame writes it (42_cell_pipeline.md R130, 10_state.md R29, R33). -/
def startFrame (pageW pageH : Nat) (showCtrl flashVisible : Bool) (s : State) : State :=
  rowStart (clearError
    { s with showCtrl := showCtrl, flashVisible := flashVisible, pageW := pageW, pageH := pageH, opstate := .rendering,
             carry := false, row := 0, col := 0, raster := [], reply := none })

/-- `RENDER` (R211): accepted in `READY`; the dimension check comes before anything else (60_exceptions.md R232). -/
def hostRender (pageW pageH : Nat) (showCtrl flashVisible : Bool) (s : State) : State :=
  if s.opstate = .ready then
    if pageW = Config.pageCols ∧ pageH = Config.pageRows then startFrame pageW pageH showCtrl flashVisible s
    else raiseError .invalidInput s
  else refuse s

/-- `glyphCellPixelSize()` (R212). -/
def glyphCellPixelSize : Nat × Nat := (Config.glyphWidth, Config.glyphHeight)

/-- `characterCellPixelBounds(subX, subY)`: top-left corner and size (R213). -/
def characterCellPixelBounds (subX subY : Nat) : Nat × Nat × Nat × Nat :=
  (12 * (subX / 2), 18 * (subY / 3), 12, 18)

/-- `sixelPixelBounds(subX, subY)`: top-left corner and size (R214). -/
def sixelPixelBounds (subX subY : Nat) : Nat × Nat × Nat × Nat := (6 * subX, 6 * subY, 6, 6)

/-- The request `glyphCellPixelSize` answered (R212). -/
def hostGlyphSize (s : State) : State := answer (.size glyphCellPixelSize.1 glyphCellPixelSize.2) s

/-- A rectangle query answered, refused for a coordinate out of range (R213, R214, 20_memory.md R50). -/
def answerRect (legal : Bool) (r : Nat × Nat × Nat × Nat) (s : State) : State :=
  if legal then answer (.rect r.1 r.2.1 r.2.2.1 r.2.2.2) s else refuse s

/-- The request `characterCellPixelBounds` (R213). -/
def hostCellBounds (subX subY : Nat) (s : State) : State :=
  answerRect (sixelLegal subX subY) (characterCellPixelBounds subX subY) s

/-- The request `sixelPixelBounds` (R214). -/
def hostSixelBounds (subX subY : Nat) (s : State) : State :=
  answerRect (sixelLegal subX subY) (sixelPixelBounds subX subY) s

/-- The sixel `get` port (R215, 41_sixel_addressing.md R114). -/
def hostSixelGet (x y : Nat) (s : State) : State :=
  if sixelLegal x y then answer (.bit (sixelGet s.page x y)) s else refuse s

/-- The sixel `set` port (R216, 41_sixel_addressing.md R115 to R117). -/
def hostSixelSet (x y : Nat) (mode : SetMode) (s : State) : State :=
  if sixelLegal x y then answer .done { s with page := sixelSet s.page x y mode } else refuse s

/-- A direct PAGE write of the host (R218): an address that does not exist is a fault (20_memory.md R41, log 14). -/
def hostPageWrite (addr : Nat) (bytes : List Byte) (s : State) : Host.Outcome State Fault Refusal :=
  if addr + bytes.length ≤ Config.pageBytes then
    .next (answer .done { s with page := memWriteList s.page addr bytes })
  else .fault (.noSuchPageAddress (max addr Config.pageBytes))

/-- A request made in the state it is made in: nothing is accepted while a frame is in progress
(60_exceptions.md R240). -/
def hostRequest (r : Request) (s : State) : Host.Outcome State Fault Refusal :=
  if s.opstate = .rendering then .next (refuse s)
  else match r with
    | .build font icons => .next (hostBuild font icons s)
    | .render w h showCtrl fv => .next (hostRender w h showCtrl fv s)
    | .glyphCellPixelSize => .next (hostGlyphSize s)
    | .characterCellPixelBounds x y => .next (hostCellBounds x y s)
    | .sixelPixelBounds x y => .next (hostSixelBounds x y s)
    | .sixelGet x y => .next (hostSixelGet x y s)
    | .sixelSet x y mode => .next (hostSixelSet x y mode s)
    | .pageWrite addr bytes => hostPageWrite addr bytes s

/-- The host's next move between frames: its oldest request is taken and answered; with none to come the block is idle
(45_host_operations.md R218, 60_exceptions.md R245). -/
def hostMove (s : State) : Host.Outcome State Fault Refusal :=
  match s.requests with
  | [] => .next s
  | r :: rest => hostRequest r { s with requests := rest }

end Sys2Proof.Machine
end

