-- ==== Sys2Proof/Machine/Step.lean ====
section
/-! DEFINITION. One step of the machine: a cell step while a frame is in progress, the host's next move otherwise. -/

namespace Sys2Proof.Machine

/-- One step (45_host_operations.md R218, 20_memory.md R57): while `opstate = RENDERING` the decoder moves, otherwise
the host does. -/
def step (s : State) : Host.Outcome State Fault Refusal :=
  if s.opstate = .rendering then cellStep s else hostMove s

/-- The byte of a row of spec/opcode_table.json stored in the cell the next step fetches, with a frame in progress, so
that the next step runs it (log 15). -/
def State.withFetchWord (s : State) (nbits w : Nat) : State :=
  { s with page := memWrite s.page s.scan (tableByte nbits w), opstate := .rendering }

end Sys2Proof.Machine
end

