-- ==== Sys2Proof/Safety.lean ====
section
/-! DEFINITION. The terms in which statements speak of the machine: what a good state is, what a cell must show, what a
cell step leaves alone, and runs of several steps. The machine does not use this file. -/

namespace Sys2Proof.Machine

/-! ## Good states -/

/-- The image of one cell: 18 rows of 12 pixels (20_memory.md R45). -/
abbrev imageWf (img : CellImage) : Prop := img.length = 18 ∧ ∀ r ∈ img, r.length = 12

/-- The canonical form of RASTER: cells in scan order, each inside the page, each a whole image. -/
abbrev rasterWf (m : List (Nat × CellImage)) : Prop := storeSorted m ∧ ∀ e ∈ m, e.1 < 1000 ∧ imageWf e.2

/-- `opstate` and `err` agree (10_state.md R30, 60_exceptions.md R231, R232, R237). -/
def statusAgrees (o : OpState) (e : ErrorCode) : Prop :=
  match o with
  | .unbuilt => e = .none
  | .ready => e = .none ∨ e = .invalidInput
  | .rendering => e = .none
  | .failed => e = .assetLoadError

/-- How much of RASTER is written in each operating state: in a frame exactly the cells already stepped, between frames
nothing or everything (20_memory.md R63, 10_state.md R27). -/
def rasterProgress (s : State) : Prop :=
  match s.opstate with
  | .unbuilt => s.raster = []
  | .ready => s.raster = [] ∨ s.raster.map Prod.fst = List.range 1000
  | .rendering => s.raster.map Prod.fst = List.range (40 * s.row.val + s.col.val)
  | .failed => s.raster = []

/-- The invariant of the machine. -/
structure State.Inv (s : State) : Prop where
  /-- PAGE, FONT, ICON and RASTER are in canonical form. -/
  pageCanonical : Memory.wf 1000 s.page
  fontCanonical : Memory.wf 3456 s.font
  iconCanonical : BitMemory.wf 6912 s.icon
  rasterCanonical : rasterWf s.raster
  /-- The recorded code is 0 or has bit 5 set (10_state.md R20, 40_glyphset.md R100). -/
  recordIsGraphic : s.rs.lastGraphicCode = 0 ∨ s.rs.lastGraphicCode.getLsbD 5 = true
  /-- No code selects a black foreground (30_encoding.md R73). -/
  foregroundNotBlack : s.rs.foreground ≠ 0
  /-- A bottom-half row starts no second pair (10_state.md R20, 42_cell_pipeline.md R147). -/
  bottomHalfStartsNoPair : s.bottomHalf = true → s.rs.nextDoubleHeight = false
  /-- The two status fields agree. -/
  status : statusAgrees s.opstate s.err
  /-- A frame in progress was accepted with the right dimensions (10_state.md R29). -/
  latchedDimensions : s.opstate = .rendering → s.pageW = 40 ∧ s.pageH = 25
  /-- FONT and ICON are unbuilt until BUILD succeeds (60_exceptions.md R231, 70_reset_and_hazards.md R260). -/
  romsUnbuilt : s.opstate = .unbuilt ∨ s.opstate = .failed → s.font = [] ∧ s.icon = []
  /-- RASTER holds exactly what the frame has written. -/
  progress : rasterProgress s

/-- `FontSpaceBlank`: the font record of code 32 unpacks to the blank glyph (40_glyphset.md R93). -/
def FontSpaceBlank (font : Memory) : Prop :=
  ∀ y < 18, memRead font (2 * y) = 0 ∧ (memRead font (2 * y + 1)).extractLsb' 0 2 = 0

/-! ## What a cell must show -/

/-- The closed form of a pixel after the overlay (42_cell_pipeline.md R142). -/
def pixelClosed (g : Bool) (fg bg : Colour) (ov k : Bool) : Colour :=
  if !ov || k then (if g then fg else bg)
  else if fg = bg then 0
  else if g then bg else fg

/-- The glyph bit that a cell showing `code` must have at `(py, px)` under the RowState `rs`: the table of
44_display_codes.md R204 with the slots of 40_glyphset.md R99 and the mosaics of R96 and R97 written out. -/
def shownBit (font : Memory) (rs : RowState) (bottomHalf flashVisible : Bool) (code : Code) (py px : Nat) : Bool :=
  let off := rs.flash && !flashVisible
  let c : Code := if off then 32 else code
  let y := if rs.doubleHeight then (if bottomHalf then 9 + py / 2 else py / 2) else py
  if bottomHalf && !rs.doubleHeight then false
  else if rs.graphicsOn && c.getLsbD 5 then
    if rs.separatedGraphics && (Config.sepCols px || Config.sepRows y) then false
    else c.getLsbD ([0, 1, 2, 3, 4, 6].getD (px / 6 + 2 * (y / 6)) 0)
  else if c.toNat < 32 then false
  else fontRow (memRead font (36 * (c.toNat - 32) + 2 * y)) (memRead font (36 * (c.toNat - 32) + 2 * y + 1)) px

/-- What a control cell of code `n` must show once RowState is `rs`: the held graphic or blank, with icon `n` when
`show_ctrl` is set (42_cell_pipeline.md R134, R140, R142). -/
def controlPixel (s : State) (rs : RowState) (n : Code) (py px : Nat) : Colour :=
  let code : Code := if rs.holdGraphics && rs.graphicsOn then rs.lastGraphicCode else 0
  pixelClosed (shownBit s.font rs s.bottomHalf s.flashVisible code py px) rs.foreground rs.background
    s.showCtrl (bitRead s.icon (216 * n.toNat + 12 * py + px))

/-- What a display cell of code `c` must show: no icon, RowState as the cell found it (44_display_codes.md R200). -/
def displayPixel (s : State) (c : Code) (py px : Nat) : Colour :=
  if shownBit s.font s.rs s.bottomHalf s.flashVisible c py px then s.rs.foreground else s.rs.background

/-- From `s` to `t` the 216 pixels of the cell at the scan position of `s` became `pix`, and no other location of RASTER
changed (20_memory.md R45, R63). -/
def Pictured (s t : State) (pix : Nat → Nat → Colour) : Prop :=
  (∀ py < 18, ∀ px < 12, t.rasterAt (12 * s.col.val + px) (18 * s.row.val + py) = some (pix py px)) ∧
  ∀ X Y, ¬ (12 * s.col.val ≤ X ∧ X < 12 * s.col.val + 12 ∧ 18 * s.row.val ≤ Y ∧ Y < 18 * s.row.val + 18) →
    t.rasterAt X Y = s.rasterAt X Y

/-- What no code writes: PAGE, FONT and ICON (so every address of them reads as before), the bottom-half latch, the
latched inputs, `err` (10_state.md R24, R28, R29, 20_memory.md R55), and the host's requests, a field of the model (log 2). -/
def UntouchedByCodes (s t : State) : Prop :=
  t.page = s.page ∧ t.font = s.font ∧ t.icon = s.icon ∧ t.bottomHalf = s.bottomHalf ∧ t.showCtrl = s.showCtrl ∧
  t.flashVisible = s.flashVisible ∧ t.pageW = s.pageW ∧ t.pageH = s.pageH ∧ t.err = s.err ∧ t.requests = s.requests

/-- What a control code of the opcode map does: bytes `n` and `0x80 + n` decode to it; it completes from every state;
RowState becomes `effect`; its own cell is drawn under that RowState; nothing else is written but the scan position, and
at a row's end the carry, at the frame's end the status and the answer (43_control_codes.md, common part). -/
def ControlCodeDoes (n : Byte) (i : Instr) (effect : Bool → RowState → RowState) : Prop :=
  decodeByte n = .ok i ∧ decodeByte (0x80 + n) = .ok i ∧
  ∀ s : State, ∃ t : State, exec i s = .next t ∧
    t.rs = effect s.bottomHalf s.rs ∧
    Pictured s t (controlPixel s t.rs (n.setWidth 7)) ∧
    UntouchedByCodes s t

/-- What a display code does (44_display_codes.md R200): it completes from every state, its cell is drawn, RowState keeps
every field but `last_graphic_code`, which becomes `record`. -/
def DisplayCodeDoes (c : Code) (i : Instr) (record : RowState → Code) : Prop :=
  decodeByte (c.setWidth 8) = .ok i ∧ decodeByte (0x80 + c.setWidth 8) = .ok i ∧
  ∀ s : State, ∃ t : State, exec i s = .next t ∧
    t.rs = { s.rs with lastGraphicCode := record s.rs } ∧
    Pictured s t (displayPixel s c) ∧
    UntouchedByCodes s t

/-! ## Runs -/

/-- `t` is the state `k` steps after `s`, no step of the run stopping. -/
def RunsTo (k : Nat) (s t : State) : Prop := Host.Core.run Sys2Proof.core k s = .next t

/-- An outcome is a next state: neither a fault nor a refusal. -/
def Completes (o : Host.Outcome State Fault Refusal) : Prop := ∃ t, o = .next t

/-- The PAGE byte of a cell. -/
def pageByte (s : State) (row col : Nat) : Byte := memRead s.page (40 * row + col)

/-- Two states differ at most in what a row start overwrites: RowState and the bottom-half latch. -/
def SameButRowState (s t : State) : Prop := { s with rs := t.rs, bottomHalf := t.bottomHalf } = t

end Sys2Proof.Machine
end

