-- ==== Sys2Proof/Certificates/Slice0/Obligations.lean ====
section
/-! DEFINITION. The statements about the machine, each with the rule of spec/ it comes from. -/

open Sys2Proof Sys2Proof.Machine

/-! ## Encoding -/

/-- Decode and encode agree on every well-formed instruction, at every operand (30_encoding.md R70, R75). -/
def Obligations.EncodedInstructionDecodes : Prop :=
  ∀ (i : Instr) (rest : List Byte), i.wf = true → decode (encode i ++ rest) = .ok (i, rest)

/-- Every byte is a well-formed instruction of its own seven-bit code, and bit 7 makes no difference
(30_encoding.md R77, R78). -/
def Obligations.EveryByteIsAnInstruction : Prop :=
  ∀ (b : Byte) (rest : List Byte), ∃ i : Instr,
    decode (b :: rest) = .ok (i, rest) ∧ i.wf = true ∧ encode i = [b &&& 0x7F] ∧
    decodeByte (b ^^^ 0x80) = .ok i

/-- A few words written out from the opcode map (30_encoding.md R75). -/
def Obligations.TableWordsDecode : Prop :=
  decodeTableWord 8 0b00000001 = some .alphaRed ∧ decodeTableWord 8 0b00001101 = some .doubleHeight ∧
  decodeTableWord 8 0b00010111 = some .gfxWhite ∧ decodeTableWord 8 0b00011011 = some .nop1B ∧
  decodeTableWord 8 0b10011101 = some .newBg ∧ decodeTableWord 8 0b00110101 = some (.dispG0 0x35) ∧
  decodeTableWord 8 0b01000001 = some (.dispT 0x41) ∧ decodeTableWord 8 0b01100110 = some (.dispG1 0x66)

/-! ## The cell step -/

/-- In a frame, a step runs the instruction that the byte at the scan position decodes to: from the state itself, or, at
column 0, from the state RowStart leaves (42_cell_pipeline.md R130, R143; that RowStart is folded into the first cell step
is the model's choice, log 1, which 92_eei_decisions.md D1 allows). -/
def Obligations.CellStepRunsDecodedInstruction : Prop :=
  ∀ (s : State) (i : Instr), s.opstate = .rendering → i.wf = true →
    decode [memRead s.page (40 * s.row.val + s.col.val)] = .ok (i, []) →
    (s.col.val ≠ 0 → step s = exec i s) ∧ (s.col.val = 0 → step s = exec i (rowStart s))

/-- RowStart: the bottom-half latch and the active double-height flag become the carry, the other eight fields their
defaults, and nothing else is written (10_state.md R23). -/
def Obligations.RowStartReinitialises : Prop :=
  ∀ s : State, rowStart s = { s with
    bottomHalf := s.carry
    rs :=
      { separatedGraphics := false, holdGraphics := false, graphicsOn := false, doubleHeight := s.carry,
        nextDoubleHeight := false, flash := false, foreground := 7, background := 0, lastGraphicCode := 0 } }

/-- Nothing of RowState or of the bottom-half latch survives a row start: two frames in progress at column 0 that differ
only there run alike ever after (10_state.md R34, 70_reset_and_hazards.md R265). -/
def Obligations.RowStateNeverLeaks : Prop :=
  ∀ (s t : State) (k : Nat), s.opstate = .rendering → s.col.val = 0 → SameButRowState s t →
    Host.Core.run Sys2Proof.core (k + 1) s = Host.Core.run Sys2Proof.core (k + 1) t

/-- A cell step raises nothing (60_exceptions.md R239, 30_encoding.md R77). -/
def Obligations.CellStepNeverStops : Prop :=
  ∀ s : State, s.opstate = .rendering → Completes (step s)

/-- The end of every cell step, whatever the code (10_state.md R22, R26, R27). That the scan position stays after the last
cell is the model's choice (log 12), the answer `completed` is the model's field (log 2). -/
def Obligations.EveryCodeAdvancesTheScan : Prop :=
  ∀ (i : Instr) (s : State), ∃ t : State, exec i s = .next t ∧
    (s.col.val < 39 →
      t.row = s.row ∧ t.col.val = s.col.val + 1 ∧ t.carry = s.carry ∧ t.opstate = s.opstate ∧ t.reply = s.reply) ∧
    (s.col.val = 39 → s.row.val < 24 →
      t.row.val = s.row.val + 1 ∧ t.col.val = 0 ∧ t.carry = t.rs.nextDoubleHeight ∧ t.opstate = s.opstate ∧
      t.reply = s.reply) ∧
    (s.col.val = 39 → s.row.val = 24 →
      t.row = s.row ∧ t.col = s.col ∧ t.carry = t.rs.nextDoubleHeight ∧ t.opstate = .ready ∧
      t.reply = some .completed)

/-! ## The control codes -/

/-- The eight no-ops (43_control_codes.md R160, R170, R171, R174 to R176, R184, R187). -/
def Obligations.NoOpCodesKeepRowState : Prop :=
  ControlCodeDoes 0x00 .nop00 (fun _ rs => rs) ∧ ControlCodeDoes 0x0A .nop0A (fun _ rs => rs) ∧
  ControlCodeDoes 0x0B .nop0B (fun _ rs => rs) ∧ ControlCodeDoes 0x0E .nop0E (fun _ rs => rs) ∧
  ControlCodeDoes 0x0F .nop0F (fun _ rs => rs) ∧ ControlCodeDoes 0x10 .nop10 (fun _ rs => rs) ∧
  ControlCodeDoes 0x18 .nop18 (fun _ rs => rs) ∧ ControlCodeDoes 0x1B .nop1B (fun _ rs => rs)

/-- The seven alpha colours (43_control_codes.md R161 to R167). -/
def Obligations.AlphaCodesSetForeground : Prop :=
  ControlCodeDoes 0x01 .alphaRed (fun _ rs => { rs with foreground := 1, graphicsOn := false }) ∧
  ControlCodeDoes 0x02 .alphaGreen (fun _ rs => { rs with foreground := 2, graphicsOn := false }) ∧
  ControlCodeDoes 0x03 .alphaYellow (fun _ rs => { rs with foreground := 3, graphicsOn := false }) ∧
  ControlCodeDoes 0x04 .alphaBlue (fun _ rs => { rs with foreground := 4, graphicsOn := false }) ∧
  ControlCodeDoes 0x05 .alphaMagenta (fun _ rs => { rs with foreground := 5, graphicsOn := false }) ∧
  ControlCodeDoes 0x06 .alphaCyan (fun _ rs => { rs with foreground := 6, graphicsOn := false }) ∧
  ControlCodeDoes 0x07 .alphaWhite (fun _ rs => { rs with foreground := 7, graphicsOn := false })

/-- The seven graphics colours (43_control_codes.md R177 to R183). -/
def Obligations.GraphicsCodesSetForeground : Prop :=
  ControlCodeDoes 0x11 .gfxRed (fun _ rs => { rs with foreground := 1, graphicsOn := true }) ∧
  ControlCodeDoes 0x12 .gfxGreen (fun _ rs => { rs with foreground := 2, graphicsOn := true }) ∧
  ControlCodeDoes 0x13 .gfxYellow (fun _ rs => { rs with foreground := 3, graphicsOn := true }) ∧
  ControlCodeDoes 0x14 .gfxBlue (fun _ rs => { rs with foreground := 4, graphicsOn := true }) ∧
  ControlCodeDoes 0x15 .gfxMagenta (fun _ rs => { rs with foreground := 5, graphicsOn := true }) ∧
  ControlCodeDoes 0x16 .gfxCyan (fun _ rs => { rs with foreground := 6, graphicsOn := true }) ∧
  ControlCodeDoes 0x17 .gfxWhite (fun _ rs => { rs with foreground := 7, graphicsOn := true })

/-- Flash on and off (43_control_codes.md R168, R169). -/
def Obligations.FlashCodesWriteFlash : Prop :=
  ControlCodeDoes 0x08 .flashOn (fun _ rs => { rs with flash := true }) ∧
  ControlCodeDoes 0x09 .flashOff (fun _ rs => { rs with flash := false })

/-- Normal and double height (43_control_codes.md R172, R173). -/
def Obligations.HeightCodesWriteActiveFlag : Prop :=
  ControlCodeDoes 0x0C .normalHeight (fun _ rs => { rs with doubleHeight := false }) ∧
  ControlCodeDoes 0x0D .doubleHeight
    (fun bottomHalf rs => { rs with doubleHeight := true, nextDoubleHeight := rs.nextDoubleHeight || !bottomHalf })

/-- Contiguous and separated graphics (43_control_codes.md R185, R186). -/
def Obligations.SeparationCodesWriteSeparated : Prop :=
  ControlCodeDoes 0x19 .contiguousGfx (fun _ rs => { rs with separatedGraphics := false }) ∧
  ControlCodeDoes 0x1A .separatedGfx (fun _ rs => { rs with separatedGraphics := true })

/-- Black and new background (43_control_codes.md R188, R189). -/
def Obligations.BackgroundCodesWriteBackground : Prop :=
  ControlCodeDoes 0x1C .blackBg (fun _ rs => { rs with background := 0 }) ∧
  ControlCodeDoes 0x1D .newBg (fun _ rs => { rs with background := rs.foreground })

/-- Hold and release graphics (43_control_codes.md R190, R191). -/
def Obligations.HoldCodesWriteHold : Prop :=
  ControlCodeDoes 0x1E .holdGfx (fun _ rs => { rs with holdGraphics := true }) ∧
  ControlCodeDoes 0x1F .releaseGfx (fun _ rs => { rs with holdGraphics := false })

/-! ## The display codes -/

/-- Codes 32 to 63 (44_display_codes.md R200, R201). -/
def Obligations.DispG0DrawsAndRecords : Prop :=
  ∀ c : Code, 32 ≤ c.toNat → c.toNat ≤ 63 →
    DisplayCodeDoes c (.dispG0 c) (fun rs => if rs.graphicsOn then c else rs.lastGraphicCode)

/-- Codes 64 to 95 (44_display_codes.md R200, R202). -/
def Obligations.DispTDrawsAndKeepsRecord : Prop :=
  ∀ c : Code, 64 ≤ c.toNat → c.toNat ≤ 95 →
    DisplayCodeDoes c (.dispT c) (fun rs => rs.lastGraphicCode)

/-- Codes 96 to 127 (44_display_codes.md R200, R203). -/
def Obligations.DispG1DrawsAndRecords : Prop :=
  ∀ c : Code, 96 ≤ c.toNat →
    DisplayCodeDoes c (.dispG1 c) (fun rs => if rs.graphicsOn then c else rs.lastGraphicCode)

/-! ## What the flags and the two display inputs cannot do -/

/-- In a bottom-half row a cell whose active double-height flag is off after its own effect is all background when no icon
is overlaid, whatever the code (42_cell_pipeline.md R146). -/
def Obligations.SuppressedCellIsBackground : Prop :=
  ∀ (i : Instr) (s t : State), s.bottomHalf = true → s.showCtrl = false → exec i s = .next t →
    t.rs.doubleHeight = false →
    ∀ py < 18, ∀ px < 12,
      t.rasterAt (12 * s.col.val + px) (18 * s.row.val + py) = some t.rs.background

/-- `show_ctrl` changes pixels only (60_exceptions.md R244). -/
def Obligations.ShowCtrlChangesPixelsOnly : Prop :=
  ∀ (i : Instr) (s : State) (b : Bool), ∃ t u : State, exec i s = .next t ∧
    exec i { s with showCtrl := b } = .next u ∧ { u with showCtrl := t.showCtrl, raster := t.raster } = t

/-- `flash_visible` changes pixels only: flashing never changes RowState (42_cell_pipeline.md R138, R148). -/
def Obligations.FlashVisibleChangesPixelsOnly : Prop :=
  ∀ (i : Instr) (s : State) (b : Bool), ∃ t u : State, exec i s = .next t ∧
    exec i { s with flashVisible := b } = .next u ∧ { u with flashVisible := t.flashVisible, raster := t.raster } = t

/-! ## Glyphs -/

/-- A font row is the little-endian word `256·d + c`: column `k` is bit `9 − k`, the other columns are 0
(20_memory.md R46). -/
def Obligations.FontRowIsLittleEndianWord : Prop :=
  ∀ (c d : Byte) (k : Nat),
    fontRow c d k = (decide (k ≤ 9) && (256 * d.toNat + c.toNat).testBit (9 - k))

/-- The twelve columns of a font row (40_glyphset.md R92). -/
def Obligations.FontRowColumns : Prop :=
  ∀ c d : Byte,
    (List.range 12).map (fontRow c d) =
      [d.getLsbD 1, d.getLsbD 0, c.getLsbD 7, c.getLsbD 6, c.getLsbD 5, c.getLsbD 4, c.getLsbD 3, c.getLsbD 2,
       c.getLsbD 1, c.getLsbD 0, false, false]

/-- A contiguous mosaic fills each 6×6 sub-cell `i` by the bit that holds it, whatever the font and the separators
(40_glyphset.md R95, R96). -/
def Obligations.MosaicFillsSubCells : Prop :=
  ∀ (sep : Config.Separators) (font : Memory) (c : Code), c.getLsbD 5 = true →
    ∀ sx < 2, ∀ sy < 3, ∀ dx < 6, ∀ dy < 6,
      glyph sep font c .graphics .standard (6 * sy + dy) (6 * sx + dx) =
        c.getLsbD ([0, 1, 2, 3, 4, 6].getD (sx + 2 * sy) 0)

/-- A separated mosaic is the contiguous one with the separator columns and rows cleared, and a code without bit 5 has its
literal glyph in all three modes (40_glyphset.md R97, R98). -/
def Obligations.ThinAndTextGlyphs : Prop :=
  ∀ (sep : Config.Separators) (font : Memory) (c : Code) (py px : Nat),
    (c.getLsbD 5 = true →
      glyph sep font c .thinGraphics .standard py px =
        (glyph sep font c .graphics .standard py px && !sep.cols px && !sep.rows py)) ∧
    (c.getLsbD 5 = false → ∀ (m : RenderMode) (sl : HeightSlot),
      glyph sep font c m sl py px = glyph sep font c .normal sl py px)

/-- Upper shows Standard rows 0 to 8 twice, Lower rows 9 to 17 twice, for every code and mode (40_glyphset.md R99). -/
def Obligations.HeightSlotsSampleTheirHalves : Prop :=
  ∀ (sep : Config.Separators) (font : Memory) (c : Code) (m : RenderMode), ∀ k < 9, ∀ px < 12, ∀ j < 2,
    glyph sep font c m .upper (2 * k + j) px = glyph sep font c m .standard k px ∧
    glyph sep font c m .lower (2 * k + j) px = glyph sep font c m .standard (9 + k) px

/-- Glyphs that are blank for every parameter value, and the space glyph of Normal mode, which is blank exactly when
`FontSpaceBlank` holds (40_glyphset.md R93, R100). -/
def Obligations.BlankGlyphs : Prop :=
  ∀ (sep : Config.Separators) (font : Memory),
    (∀ (m : RenderMode) (sl : HeightSlot), ∀ py < 18, ∀ px < 12, glyph sep font 0 m sl py px = false) ∧
    (∀ sl : HeightSlot, ∀ py < 18, ∀ px < 12,
      glyph sep font 32 .graphics sl py px = false ∧ glyph sep font 32 .thinGraphics sl py px = false) ∧
    ((∀ py < 18, ∀ px < 12, glyph sep font 32 .normal .standard py px = false) ↔ FontSpaceBlank font)

/-- The linear numbering of the GLYPH space: 1152 entries, each triple its own, each entry the glyph of its triple
(20_memory.md R44). -/
def Obligations.GlyphEntriesAreNumbered : Prop :=
  (∀ (c c' : Code) (m m' : RenderMode) (sl sl' : HeightSlot),
    glyphIndex c m sl = glyphIndex c' m' sl' → c = c' ∧ m = m' ∧ sl = sl') ∧
  ∀ (sep : Config.Separators) (font : Memory) (c : Code) (m : RenderMode) (sl : HeightSlot),
    glyphIndex c m sl < 1152 ∧ glyphEntry sep font (glyphIndex c m sl) = glyph sep font c m sl

/-! ## Sixel addressing -/

/-- The remap of the sub-cell index: 5 becomes 6, every other index passes through, and no index becomes bit 5 or bit 7
(41_sixel_addressing.md R110, R111). -/
def Obligations.SixelRemap : Prop :=
  ∀ x y : Nat, sixelIndex x y = x % 2 + 2 * (y % 3) ∧ sixelIndex x y < 6 ∧
    sixelBit (sixelIndex x y) = (if sixelIndex x y = 5 then 6 else sixelIndex x y) ∧
    sixelBit (sixelIndex x y) ≠ 5 ∧ sixelBit (sixelIndex x y) ≠ 7

/-- Legal sub-cells have a PAGE address and a bit of their own, never bit 5 or bit 7 (41_sixel_addressing.md R113). -/
def Obligations.SixelAddressesAreDistinct : Prop :=
  ∀ x y x' y' : Nat, x ≤ 79 → y ≤ 74 → x' ≤ 79 → y' ≤ 74 →
    (sixelAddr x y).1 = 40 * (y / 3) + x / 2 ∧ (sixelAddr x y).1 < 1000 ∧
    (sixelAddr x y).2 ∈ [0, 1, 2, 3, 4, 6] ∧
    (sixelAddr x y = sixelAddr x' y' → x = x' ∧ y = y')

/-- What `get` reads after a `set`, of the same sub-cell and of any other (41_sixel_addressing.md R118, laws 1 and 2). -/
def Obligations.SixelGetAfterSet : Prop :=
  ∀ (page : Memory) (x y : Nat), x ≤ 79 → y ≤ 74 →
    sixelGet (sixelSet page x y .on) x y = true ∧
    sixelGet (sixelSet page x y .off) x y = false ∧
    sixelGet (sixelSet page x y .toggle) x y = !sixelGet page x y ∧
    ∀ (m : SetMode) (x' y' : Nat), x' ≤ 79 → y' ≤ 74 → ¬ (x' = x ∧ y' = y) →
      sixelGet (sixelSet page x y m) x' y' = sixelGet page x' y'

/-- A `set` changes no other byte of PAGE and no other bit of its byte (41_sixel_addressing.md R118, law 3). -/
def Obligations.SixelSetChangesOneBit : Prop :=
  ∀ (page : Memory) (x y : Nat) (m : SetMode),
    (∀ a : Nat, a ≠ 40 * (y / 3) + x / 2 → memRead (sixelSet page x y m) a = memRead page a) ∧
    ∀ b : Nat, b ≠ sixelBit (x % 2 + 2 * (y % 3)) →
      (memRead (sixelSet page x y m) (40 * (y / 3) + x / 2)).getLsbD b =
        (memRead page (40 * (y / 3) + x / 2)).getLsbD b

/-- The host ports: between frames `get` answers the bit and `set` rewrites PAGE, each leaving all else alone
(45_host_operations.md R215, R216). The answer is the model's field (log 2), and so is the value `done`: by R218 the host gets
back nothing from a `set`. -/
def Obligations.SixelPortsAnswer : Prop :=
  ∀ (s : State) (x y : Nat) (m : SetMode), s.opstate ≠ .rendering → x ≤ 79 → y ≤ 74 →
    hostRequest (.sixelGet x y) s =
      .next { s with reply := some (.bit ((memRead s.page (40 * (y / 3) + x / 2)).getLsbD (sixelBit (x % 2 + 2 * (y % 3))))) } ∧
    hostRequest (.sixelSet x y m) s = .next { s with page := sixelSet s.page x y m, reply := some .done }

/-- A graphics-capable cell drawn in Graphics mode in the Standard slot shows, in the 6×6 block of each of its sub-cells,
the foreground exactly where `get` is true (41_sixel_addressing.md R119). -/
def Obligations.MosaicAgreesWithSixelGet : Prop :=
  ∀ (s : State) (i : Instr), (memRead s.page (40 * s.row.val + s.col.val)).getLsbD 5 = true →
    decodeByte (memRead s.page (40 * s.row.val + s.col.val)) = .ok i →
    s.rs.graphicsOn = true → s.rs.separatedGraphics = false → s.rs.doubleHeight = false → s.bottomHalf = false →
    (s.rs.flash = false ∨ s.flashVisible = true) → s.rs.foreground ≠ s.rs.background →
    ∃ t : State, exec i s = .next t ∧
      ∀ x y : Nat, x / 2 = s.col.val → y / 3 = s.row.val → ∀ dx < 6, ∀ dy < 6,
        (t.rasterAt (6 * x + dx) (6 * y + dy) = some s.rs.foreground ↔ sixelGet s.page x y = true)

/-! ## Rows and frames -/

/-- The carry out of a row: no carry came in and some byte of the row is a code 13 (42_cell_pipeline.md R145). -/
def Obligations.CarryOfARow : Prop :=
  ∀ s : State, s.opstate = .rendering → s.col.val = 0 → ∃ t : State, RunsTo 40 s t ∧
    t.carry = (!s.carry && (List.range 40).any fun c => (pageByte s s.row.val c).setWidth 7 == 0x0D#7)

/-- The pixels of a row and the carry out of it depend on its forty bytes, the carry in, the two flags and the ROMs, and on
nothing else (42_cell_pipeline.md R131). -/
def Obligations.RowDependsOnItsOwnBytes : Prop :=
  ∀ s s' : State, s.opstate = .rendering → s'.opstate = .rendering → s.col.val = 0 → s'.col.val = 0 → s'.row = s.row →
    s'.carry = s.carry → s'.showCtrl = s.showCtrl → s'.flashVisible = s.flashVisible →
    (∀ c < 40, pageByte s' s.row.val c = pageByte s s.row.val c) →
    (∀ a < 3456, memRead s'.font a = memRead s.font a) → (∀ a < 6912, bitRead s'.icon a = bitRead s.icon a) →
    ∃ t t' : State, RunsTo 40 s t ∧ RunsTo 40 s' t' ∧ t'.carry = t.carry ∧
      ∀ X < 480, ∀ Y : Nat, 18 * s.row.val ≤ Y → Y < 18 * s.row.val + 18 → t'.rasterAt X Y = t.rasterAt X Y

/-- A frame takes exactly 1000 cell steps, one cell after another, and leaves PAGE, FONT, ICON, the inputs and `err` alone
(10_state.md R27, 45_host_operations.md R211, 60_exceptions.md R239). The requests are the model's field (log 2). -/
def Obligations.FrameTakesThousandSteps : Prop :=
  ∀ s : State, s.opstate = .rendering → s.row.val = 0 → s.col.val = 0 →
    (∀ k < 1000, ∃ t : State, RunsTo k s t ∧ t.opstate = .rendering ∧ 40 * t.row.val + t.col.val = k) ∧
    ∃ t : State, RunsTo 1000 s t ∧ t.opstate = .ready ∧ t.err = s.err ∧ t.page = s.page ∧ t.font = s.font ∧
      t.icon = s.icon ∧ t.showCtrl = s.showCtrl ∧ t.flashVisible = s.flashVisible ∧ t.requests = s.requests

/-- A completed frame has written every pixel of RASTER (20_memory.md R63). -/
def Obligations.FrameWritesEveryPixel : Prop :=
  ∀ s : State, s.opstate = .rendering → s.row.val = 0 → s.col.val = 0 → ∃ t : State, RunsTo 1000 s t ∧
    t.opstate = .ready ∧ ∀ X < 480, ∀ Y < 450, (t.rasterAt X Y).isSome = true

/-- The raster of a completed frame is a function of the page, the two flags and the ROMs, whatever came before
(42_cell_pipeline.md R144, 10_state.md R32). -/
def Obligations.RasterIsAFunctionOfItsInputs : Prop :=
  ∀ (s s' : State) (sc fv : Bool), s.opstate = .ready → s'.opstate = .ready →
    (∀ a < 1000, memRead s'.page a = memRead s.page a) → (∀ a < 3456, memRead s'.font a = memRead s.font a) →
    (∀ a < 6912, bitRead s'.icon a = bitRead s.icon a) →
    ∃ u u' t t' : State, hostRequest (.render 40 25 sc fv) s = .next u ∧ hostRequest (.render 40 25 sc fv) s' = .next u' ∧
      RunsTo 1000 u t ∧ RunsTo 1000 u' t' ∧ t.opstate = .ready ∧ t'.opstate = .ready ∧
      ∀ X Y : Nat, t'.rasterAt X Y = t.rasterAt X Y

/-- A page of spaces renders to the default background everywhere, for either value of either flag, when the font's space
is blank (42_cell_pipeline.md R149). -/
def Obligations.AllSpacePageIsBlack : Prop :=
  ∀ (s : State) (sc fv : Bool), s.opstate = .ready → FontSpaceBlank s.font →
    (∀ a < 1000, memRead s.page a = 0x20 ∨ memRead s.page a = 0xA0) →
    ∃ u t : State, hostRequest (.render 40 25 sc fv) s = .next u ∧ RunsTo 1000 u t ∧ t.opstate = .ready ∧
      ∀ X < 480, ∀ Y < 450, t.rasterAt X Y = some 0

/-! ## The invariant -/

/-- Every step keeps the invariant. -/
def Obligations.InvariantKeptByEveryStep : Prop :=
  ∀ s t : State, s.Inv → step s = .next t → t.Inv

/-- The invariant holds after reset. The values the spec leaves unspecified are the model's (log 4). -/
def Obligations.InvariantHoldsAtReset : Prop := State.reset.Inv

/-! ## Requests, errors, reset -/

/-- After reset the block is unbuilt and has no error, nothing is listed in any memory, and with no request it stays so
(10_state.md R33, 70_reset_and_hazards.md R260). The empty lists and the idle step are the model's (logs 2, 5, 6, 7). -/
def Obligations.ResetIsUnbuiltAndIdle : Prop :=
  State.reset.opstate = .unbuilt ∧ State.reset.err = .none ∧ State.reset.page = [] ∧ State.reset.font = [] ∧
  State.reset.icon = [] ∧ State.reset.raster = [] ∧ step State.reset = .next State.reset

/-- Between frames the host moves: the oldest request is answered, and without one nothing happens
(45_host_operations.md R218, 60_exceptions.md R245; the list of requests is the model's, log 2). -/
def Obligations.HostMovesBetweenFrames : Prop :=
  ∀ s : State, s.opstate ≠ .rendering →
    (s.requests = [] → step s = .next s) ∧
    ∀ (r : Request) (rest : List Request), s.requests = r :: rest →
      step s = hostRequest r { s with requests := rest }

/-- An accepted RENDER latches its inputs and starts the frame at cell (0, 0) with no carry and no error
(42_cell_pipeline.md R130, 45_host_operations.md R211, 10_state.md R29, R33). The requests are the model's field (log 2). -/
def Obligations.RenderStartsAFrame : Prop :=
  ∀ (s : State) (sc fv : Bool), s.opstate = .ready → ∃ t : State, hostRequest (.render 40 25 sc fv) s = .next t ∧
    t.opstate = .rendering ∧ t.err = .none ∧ t.showCtrl = sc ∧ t.flashVisible = fv ∧ t.pageW = 40 ∧ t.pageH = 25 ∧
    t.carry = false ∧ t.bottomHalf = false ∧ t.row.val = 0 ∧ t.col.val = 0 ∧ t.page = s.page ∧ t.font = s.font ∧
    t.icon = s.icon ∧ t.requests = s.requests

/-- RENDER with other dimensions raises InvalidInput and changes nothing else (60_exceptions.md R232; the answer is the
model's field, log 2). -/
def Obligations.WrongDimensionsRaiseInvalidInput : Prop :=
  ∀ (s : State) (w h : Nat) (sc fv : Bool), s.opstate = .ready → ¬ (w = 40 ∧ h = 25) →
    hostRequest (.render w h sc fv) s = .next { s with err := .invalidInput, reply := some (.error .invalidInput) }

/-- Requests in the wrong operating state and coordinates out of range are refused: nothing changes but the answer, which is
the model's field (92_eei_decisions.md D18, D29, 60_exceptions.md R240; log 2, log 3). The first clause, that a frame in
progress refuses every request, is the model's choice: it is the answer of `hostRequest` alone, which `step` never asks
during a frame, since a request made then stays in the queue until the frame has completed (log 13); that it covers the
geometry queries too is the model's reading of R240 beside 45_host_operations.md R212 (log 23). -/
def Obligations.WrongRequestsAreRefused : Prop :=
  ∀ s : State,
    (∀ r : Request, s.opstate = .rendering → hostRequest r s = .next { s with reply := some .refused }) ∧
    (∀ (w h : Nat) (sc fv : Bool), s.opstate ≠ .ready →
      hostRequest (.render w h sc fv) s = .next { s with reply := some .refused }) ∧
    (∀ (f : Option (List Byte)) (ks : Option (List (List (List Bool)))), s.opstate ≠ .unbuilt →
      hostRequest (.build f ks) s = .next { s with reply := some .refused }) ∧
    (∀ (x y : Nat) (m : SetMode), ¬ (x ≤ 79 ∧ y ≤ 74) →
      hostRequest (.sixelGet x y) s = .next { s with reply := some .refused } ∧
      hostRequest (.sixelSet x y m) s = .next { s with reply := some .refused } ∧
      hostRequest (.characterCellPixelBounds x y) s = .next { s with reply := some .refused } ∧
      hostRequest (.sixelPixelBounds x y) s = .next { s with reply := some .refused })

/-- BUILD with a whole font and 32 whole icons loads FONT and ICON, every byte and every mask bit at its address, and makes
the block ready (40_glyphset.md R102, 20_memory.md R42, R43, 45_host_operations.md R217). That `err` is None afterwards is the
model's inference from 10_state.md R30 and R217, which R102 does not state (log 17); the lists are the model's form of the
assets (log 20). -/
def Obligations.BuildLoadsTheAssets : Prop :=
  ∀ (s : State) (f : List Byte) (ks : List (List (List Bool))), s.opstate = .unbuilt → f.length = 3456 →
    ks.length = 32 → (∀ k ∈ ks, k.length = 18 ∧ ∀ r ∈ k, r.length = 12) →
    ∃ t : State, hostRequest (.build (some f) (some ks)) s = .next t ∧ t.opstate = .ready ∧ t.err = .none ∧
      t.page = s.page ∧ t.raster = s.raster ∧
      (∀ c : Code, 32 ≤ c.toNat → ∀ y < 18,
        f[36 * (c.toNat - 32) + 2 * y]? = some (fontC t.font c y) ∧
        f[36 * (c.toNat - 32) + 2 * y + 1]? = some (fontD t.font c y)) ∧
      ∀ k : Code, k.toNat < 32 → ∀ py < 18, ∀ px < 12,
        ((ks.getD k.toNat []).getD py [])[px]? = some (iconBit t.icon k py px)

/-- BUILD with anything else raises AssetLoadError: the block fails and nothing is built (60_exceptions.md R231,
40_glyphset.md R102; the answer is the model's field, log 2; the form of the assets is the model's, log 20). -/
def Obligations.BadAssetsFailTheBlock : Prop :=
  ∀ (s : State) (f : Option (List Byte)) (ks : Option (List (List (List Bool)))), s.opstate = .unbuilt →
    ¬ (∃ f' ks', f = some f' ∧ ks = some ks' ∧ f'.length = 3456 ∧ ks'.length = 32 ∧
        ∀ k ∈ ks', k.length = 18 ∧ ∀ r ∈ k, r.length = 12) →
    hostRequest (.build f ks) s =
      .next { s with err := .assetLoadError, opstate := .failed, reply := some (.error .assetLoadError) }

/-- There is no way out of FAILED (10_state.md R30, 60_exceptions.md R231, R237). -/
def Obligations.FailedIsForEver : Prop :=
  ∀ s t : State, s.opstate = .failed → step s = .next t → t.opstate = .failed ∧ t.err = s.err

/-- No step after the build writes FONT or ICON or undoes the build (40_glyphset.md R103, 70_reset_and_hazards.md R270). -/
def Obligations.RomsAreImmutable : Prop :=
  ∀ s t : State, s.opstate ≠ .unbuilt → step s = .next t →
    t.font = s.font ∧ t.icon = s.icon ∧ t.opstate ≠ .unbuilt

/-- A cell step writes no PAGE byte, takes no request, and changes RASTER only inside its own cell
(20_memory.md R55, R57, R63). The requests are the model's field (log 2). -/
def Obligations.DecoderWritesOnlyItsCell : Prop :=
  ∀ s t : State, s.opstate = .rendering → step s = .next t →
    t.page = s.page ∧ t.requests = s.requests ∧ t.err = s.err ∧
    (∀ X Y : Nat, ¬ (12 * s.col.val ≤ X ∧ X < 12 * s.col.val + 12 ∧ 18 * s.row.val ≤ Y ∧ Y < 18 * s.row.val + 18) →
      t.rasterAt X Y = s.rasterAt X Y) ∧
    ∀ py < 18, ∀ px < 12, (t.rasterAt (12 * s.col.val + px) (18 * s.row.val + py)).isSome = true

/-- The geometry queries (45_host_operations.md R212 to R214); the answers are the model's field (log 2). The rectangle of a
sub-cell lies inside that of its cell. -/
def Obligations.GeometryQueriesAnswer : Prop :=
  ∀ (s : State) (x y : Nat), s.opstate ≠ .rendering → x ≤ 79 → y ≤ 74 →
    hostRequest .glyphCellPixelSize s = .next { s with reply := some (.size 12 18) } ∧
    hostRequest (.characterCellPixelBounds x y) s =
      .next { s with reply := some (.rect (12 * (x / 2)) (18 * (y / 3)) 12 18) } ∧
    hostRequest (.sixelPixelBounds x y) s = .next { s with reply := some (.rect (6 * x) (6 * y) 6 6) } ∧
    12 * (x / 2) ≤ 6 * x ∧ 6 * x + 6 ≤ 12 * (x / 2) + 12 ∧ 18 * (y / 3) ≤ 6 * y ∧ 6 * y + 6 ≤ 18 * (y / 3) + 18

/-- A direct PAGE write of the host between frames: the bytes at their addresses, every other byte as before; beyond the last
address it faults (20_memory.md R40, R41, 45_host_operations.md R218). The answer `done` is the model's own field and value:
by R218 the host gets back nothing (log 2). The fault is the model's (log 14). -/
def Obligations.HostPageWriteStoresBytes : Prop :=
  ∀ (s : State) (addr : Nat) (bs : List Byte), s.opstate ≠ .rendering →
    (addr + bs.length ≤ 1000 → ∃ t : State, hostRequest (.pageWrite addr bs) s = .next t ∧
      (∀ i < bs.length, bs[i]? = some (memRead t.page (addr + i))) ∧
      (∀ a : Nat, ¬ (addr ≤ a ∧ a < addr + bs.length) → memRead t.page a = memRead s.page a) ∧
      t = { s with page := t.page, reply := some .done }) ∧
    (1000 < addr + bs.length → ∃ a ≥ 1000, hostRequest (.pageWrite addr bs) s = .fault (.noSuchPageAddress a))

/-- The only step that does not complete is a host write to a PAGE address that does not exist (60_exceptions.md R230,
R239; the fault is the model's, log 14). -/
def Obligations.OnlyBadPageWritesStop : Prop :=
  ∀ s : State, Completes (step s) ∨
    ∃ (addr : Nat) (bs : List Byte) (rest : List Request) (a : Nat), s.opstate ≠ .rendering ∧
      s.requests = .pageWrite addr bs :: rest ∧ 1000 < addr + bs.length ∧ step s = .fault (.noSuchPageAddress a)

/-! ## Memory -/

/-- Two byte memories in canonical form that read alike are the same data (the model's form, log 5). -/
def Obligations.CanonicalMemoriesAreEqual : Prop :=
  ∀ (n : Nat) (m m' : Memory), Memory.wf n m → Memory.wf n m' → (∀ a < n, memRead m a = memRead m' a) → m = m'
end

