-- ==== Sys2Proof/Laws/Memory.lean ====
section
/-! SUPPORT. The laws of the memory spaces: a read after a write, and the canonical form kept by every operation. -/

namespace Sys2Proof.Machine

section Store

variable {α : Type}

@[simp] theorem storeFind_nil (a : Nat) : storeFind ([] : List (Nat × α)) a = none := rfl

theorem storeFind_cons (k : Nat) (v : α) (m : List (Nat × α)) (a : Nat) :
    storeFind ((k, v) :: m) a = if k = a then some v else storeFind m a := rfl

@[simp] theorem storeFind_storePut_same (m : List (Nat × α)) (a : Nat) (v : α) :
    storeFind (storePut m a v) a = some v := by
  induction m with
  | nil => simp [storePut, storeFind]
  | cons e m ih =>
    obtain ⟨k, w⟩ := e
    simp only [storePut]
    split
    · simp [storeFind]
    · split
      · simp [storeFind]
      · rename_i h
        simp [storeFind, Ne.symm h, ih]

@[simp] theorem storeFind_storePut_other (m : List (Nat × α)) {a b : Nat} (v : α) (h : b ≠ a) :
    storeFind (storePut m a v) b = storeFind m b := by
  induction m with
  | nil => simp [storePut, storeFind, Ne.symm h]
  | cons e m ih =>
    obtain ⟨k, w⟩ := e
    simp only [storePut]
    split
    · simp [storeFind, Ne.symm h]
    · split
      · rename_i h2
        subst h2
        simp [storeFind, Ne.symm h]
      · simp [storeFind, ih]

@[simp] theorem storeFind_storeErase_same (m : List (Nat × α)) (a : Nat) : storeFind (storeErase m a) a = none := by
  induction m with
  | nil => rfl
  | cons e m ih =>
    obtain ⟨k, w⟩ := e
    by_cases h : k = a <;> simp_all [storeErase, storeFind]

@[simp] theorem storeFind_storeErase_other (m : List (Nat × α)) {a b : Nat} (h : b ≠ a) :
    storeFind (storeErase m a) b = storeFind m b := by
  induction m with
  | nil => rfl
  | cons e m ih =>
    obtain ⟨k, w⟩ := e
    by_cases h1 : k = a
    · subst h1
      simp_all [storeErase, storeFind, Ne.symm h]
    · simp_all [storeErase, storeFind]

theorem mem_storePut {m : List (Nat × α)} {a : Nat} {v : α} {e : Nat × α} (h : e ∈ storePut m a v) :
    e = (a, v) ∨ e ∈ m := by
  induction m with
  | nil => simpa [storePut] using h
  | cons x m ih =>
    obtain ⟨k, w⟩ := x
    simp only [storePut] at h
    split at h
    · simpa using h
    · split at h
      · rcases List.mem_cons.1 h with h | h
        · exact .inl h
        · exact .inr (List.mem_cons_of_mem _ h)
      · rcases List.mem_cons.1 h with h | h
        · exact .inr (h ▸ List.mem_cons_self)
        · exact (ih h).imp id (List.mem_cons_of_mem _)

theorem storePut_sorted {m : List (Nat × α)} (a : Nat) (v : α) (h : storeSorted m) : storeSorted (storePut m a v) := by
  induction m with
  | nil => simp [storePut, storeSorted]
  | cons x m ih =>
    obtain ⟨k, w⟩ := x
    simp only [storeSorted, List.map_cons, List.pairwise_cons] at h ih
    simp only [storePut]
    split
    · rename_i hlt
      simp only [storeSorted, List.map_cons, List.pairwise_cons]
      refine ⟨fun b hb => ?_, h⟩
      rcases List.mem_cons.1 hb with rfl | hb
      · exact hlt
      · exact hlt.trans (h.1 b hb)
    · split
      · rename_i heq
        subst heq
        simpa [storeSorted] using h
      · rename_i hlt hne
        simp only [storeSorted, List.map_cons, List.pairwise_cons]
        refine ⟨fun b hb => ?_, ih h.2⟩
        obtain ⟨e, he, rfl⟩ := List.mem_map.1 hb
        rcases mem_storePut he with rfl | he
        · simp only
          omega
        · exact h.1 _ (List.mem_map_of_mem he)

theorem storeErase_sorted {m : List (Nat × α)} (a : Nat) (h : storeSorted m) : storeSorted (storeErase m a) :=
  List.Pairwise.sublist (List.filter_sublist.map _) h

theorem mem_storeLoad [DecidableEq α] {d : α} {vs : List α} {a : Nat} {e : Nat × α} (h : e ∈ storeLoad d a vs) :
    a ≤ e.1 ∧ e.1 < a + vs.length ∧ e.2 ≠ d := by
  induction vs generalizing a with
  | nil => simp [storeLoad] at h
  | cons v vs ih =>
    simp only [storeLoad] at h
    split at h
    · obtain ⟨h1, h2, h3⟩ := ih h
      simp only [List.length_cons]
      exact ⟨by omega, by omega, h3⟩
    · rcases List.mem_cons.1 h with rfl | h
      · simp_all
      · obtain ⟨h1, h2, h3⟩ := ih h
        simp only [List.length_cons]
        exact ⟨by omega, by omega, h3⟩

theorem storeLoad_sorted [DecidableEq α] (d : α) (a : Nat) (vs : List α) : storeSorted (storeLoad d a vs) := by
  induction vs generalizing a with
  | nil => simp [storeLoad, storeSorted]
  | cons v vs ih =>
    simp only [storeLoad]
    split
    · exact ih _
    · simp only [storeSorted, List.map_cons, List.pairwise_cons]
      refine ⟨fun b hb => ?_, ih _⟩
      obtain ⟨e, he, rfl⟩ := List.mem_map.1 hb
      have := mem_storeLoad he
      omega

theorem storeFind_eq_none {m : List (Nat × α)} {a : Nat} (h : ∀ e ∈ m, e.1 ≠ a) : storeFind m a = none := by
  induction m with
  | nil => rfl
  | cons e m ih =>
    obtain ⟨k, w⟩ := e
    have h1 : k ≠ a := h (k, w) List.mem_cons_self
    simp [storeFind, h1, ih fun e he => h e (List.mem_cons_of_mem _ he)]

/-- What a loaded list of contents reads as. -/
theorem storeFind_storeLoad [DecidableEq α] (d : α) (a : Nat) (vs : List α) (i : Nat) :
    (storeFind (storeLoad d a vs) (a + i)).getD d = vs.getD i d := by
  induction vs generalizing a i with
  | nil => simp [storeLoad]
  | cons v vs ih =>
    cases i with
    | zero =>
      simp only [storeLoad]
      split
      · rename_i h
        rw [storeFind_eq_none fun e he => by have := mem_storeLoad he; omega]
        simp [h]
      · simp [storeFind]
    | succ i =>
      have h := ih (a + 1) i
      rw [show a + 1 + i = a + (i + 1) by omega] at h
      simp only [storeLoad]
      split
      · simpa using h
      · simpa [storeFind] using h

end Store

/-! ## Bytes -/

@[simp] theorem memRead_nil (a : Nat) : memRead [] a = unlistedByte := rfl

@[simp] theorem memRead_memWrite_same (m : Memory) (a : Nat) (v : Byte) : memRead (memWrite m a v) a = v := by
  unfold memWrite memRead
  split <;> simp_all

@[simp] theorem memRead_memWrite_other (m : Memory) {a b : Nat} (v : Byte) (h : b ≠ a) :
    memRead (memWrite m a v) b = memRead m b := by
  unfold memWrite memRead
  split <;> simp [h]

theorem memRead_memWriteList (m : Memory) (a : Nat) (bs : List Byte) (b : Nat) :
    memRead (memWriteList m a bs) b = if a ≤ b then bs.getD (b - a) (memRead m b) else memRead m b := by
  induction bs generalizing m a with
  | nil => simp [memWriteList]
  | cons v vs ih =>
    rw [memWriteList, ih]
    by_cases h1 : a + 1 ≤ b
    · rw [if_pos h1, if_pos (by omega : a ≤ b), memRead_memWrite_other _ _ (by omega),
        show b - a = b - (a + 1) + 1 by omega, List.getD_cons_succ]
    · by_cases h2 : b = a
      · subst h2
        simp
      · rw [if_neg h1, if_neg (by omega), memRead_memWrite_other _ _ h2]

theorem memRead_memLoad (bs : List Byte) (i : Nat) : memRead (memLoad bs) i = bs.getD i unlistedByte := by
  have h := storeFind_storeLoad unlistedByte 0 bs i
  rwa [Nat.zero_add] at h

theorem bitRead_bitLoad (bs : List Bool) (i : Nat) : bitRead (bitLoad bs) i = bs.getD i false := by
  have h := storeFind_storeLoad false 0 bs i
  rwa [Nat.zero_add] at h

/-! ## The canonical form -/

theorem memWrite_wf {n : Nat} {m : Memory} {a : Nat} (v : Byte) (h : Memory.wf n m) (ha : a < n) :
    Memory.wf n (memWrite m a v) := by
  unfold memWrite
  split
  · exact ⟨storeErase_sorted a h.1, fun e he => h.2 e (List.mem_of_mem_filter he)⟩
  · rename_i hv
    refine ⟨storePut_sorted a v h.1, fun e he => ?_⟩
    rcases mem_storePut he with rfl | he
    · exact ⟨ha, hv⟩
    · exact h.2 e he

theorem memWriteList_wf {n : Nat} {m : Memory} {a : Nat} (bs : List Byte) (h : Memory.wf n m)
    (ha : a + bs.length ≤ n) : Memory.wf n (memWriteList m a bs) := by
  induction bs generalizing m a with
  | nil => exact h
  | cons v vs ih =>
    simp only [List.length_cons] at ha
    exact ih (memWrite_wf v h (by omega)) (by omega)

theorem memLoad_wf {n : Nat} (bs : List Byte) (h : bs.length ≤ n) : Memory.wf n (memLoad bs) :=
  ⟨storeLoad_sorted _ _ _, fun e he => by have := mem_storeLoad he; exact ⟨by omega, this.2.2⟩⟩

theorem bitLoad_wf {n : Nat} (bs : List Bool) (h : bs.length ≤ n) : BitMemory.wf n (bitLoad bs) :=
  ⟨storeLoad_sorted _ _ _, fun e he => by have := mem_storeLoad he; exact ⟨by omega, this.2.2⟩⟩

theorem reset_memory_wf : Memory.wf 1000 [] ∧ Memory.wf 3456 [] ∧ BitMemory.wf 6912 [] := by
  refine ⟨⟨?_, ?_⟩, ⟨?_, ?_⟩, ⟨?_, ?_⟩⟩ <;> simp [storeSorted]

end Sys2Proof.Machine
end

