-- ==== Sys2Proof/Laws/State.lean ====
section
/-! SUPPORT. One lemma per field per update of State: what each shared operation leaves in each field. -/

namespace Sys2Proof.Machine

/-! ## rowStart -/

@[simp] theorem rowStart_rs (s : State) :
    (rowStart s).rs = rowStartState s.carry := rfl
@[simp] theorem rowStart_bottomHalf (s : State) :
    (rowStart s).bottomHalf = s.carry := rfl
@[simp] theorem rowStart_carry (s : State) : (rowStart s).carry = s.carry := rfl
@[simp] theorem rowStart_row (s : State) : (rowStart s).row = s.row := rfl
@[simp] theorem rowStart_col (s : State) : (rowStart s).col = s.col := rfl
@[simp] theorem rowStart_showCtrl (s : State) : (rowStart s).showCtrl = s.showCtrl := rfl
@[simp] theorem rowStart_flashVisible (s : State) : (rowStart s).flashVisible = s.flashVisible := rfl
@[simp] theorem rowStart_pageW (s : State) : (rowStart s).pageW = s.pageW := rfl
@[simp] theorem rowStart_pageH (s : State) : (rowStart s).pageH = s.pageH := rfl
@[simp] theorem rowStart_opstate (s : State) : (rowStart s).opstate = s.opstate := rfl
@[simp] theorem rowStart_err (s : State) : (rowStart s).err = s.err := rfl
@[simp] theorem rowStart_page (s : State) : (rowStart s).page = s.page := rfl
@[simp] theorem rowStart_font (s : State) : (rowStart s).font = s.font := rfl
@[simp] theorem rowStart_icon (s : State) : (rowStart s).icon = s.icon := rfl
@[simp] theorem rowStart_raster (s : State) : (rowStart s).raster = s.raster := rfl
@[simp] theorem rowStart_requests (s : State) : (rowStart s).requests = s.requests := rfl
@[simp] theorem rowStart_reply (s : State) : (rowStart s).reply = s.reply := rfl

/-! ## drawCell -/

@[simp] theorem drawCell_rs (img : CellImage) (s : State) : (drawCell img s).rs = s.rs := rfl
@[simp] theorem drawCell_bottomHalf (img : CellImage) (s : State) : (drawCell img s).bottomHalf = s.bottomHalf := rfl
@[simp] theorem drawCell_carry (img : CellImage) (s : State) : (drawCell img s).carry = s.carry := rfl
@[simp] theorem drawCell_row (img : CellImage) (s : State) : (drawCell img s).row = s.row := rfl
@[simp] theorem drawCell_col (img : CellImage) (s : State) : (drawCell img s).col = s.col := rfl
@[simp] theorem drawCell_showCtrl (img : CellImage) (s : State) : (drawCell img s).showCtrl = s.showCtrl := rfl
@[simp] theorem drawCell_flashVisible (img : CellImage) (s : State) : (drawCell img s).flashVisible = s.flashVisible := rfl
@[simp] theorem drawCell_pageW (img : CellImage) (s : State) : (drawCell img s).pageW = s.pageW := rfl
@[simp] theorem drawCell_pageH (img : CellImage) (s : State) : (drawCell img s).pageH = s.pageH := rfl
@[simp] theorem drawCell_opstate (img : CellImage) (s : State) : (drawCell img s).opstate = s.opstate := rfl
@[simp] theorem drawCell_err (img : CellImage) (s : State) : (drawCell img s).err = s.err := rfl
@[simp] theorem drawCell_page (img : CellImage) (s : State) : (drawCell img s).page = s.page := rfl
@[simp] theorem drawCell_font (img : CellImage) (s : State) : (drawCell img s).font = s.font := rfl
@[simp] theorem drawCell_icon (img : CellImage) (s : State) : (drawCell img s).icon = s.icon := rfl
@[simp] theorem drawCell_raster (img : CellImage) (s : State) :
    (drawCell img s).raster = storePut s.raster s.scan img := rfl
@[simp] theorem drawCell_requests (img : CellImage) (s : State) : (drawCell img s).requests = s.requests := rfl
@[simp] theorem drawCell_reply (img : CellImage) (s : State) : (drawCell img s).reply = s.reply := rfl

/-! ## answer -/

@[simp] theorem answer_rs (r : Reply) (s : State) : (answer r s).rs = s.rs := rfl
@[simp] theorem answer_bottomHalf (r : Reply) (s : State) : (answer r s).bottomHalf = s.bottomHalf := rfl
@[simp] theorem answer_carry (r : Reply) (s : State) : (answer r s).carry = s.carry := rfl
@[simp] theorem answer_row (r : Reply) (s : State) : (answer r s).row = s.row := rfl
@[simp] theorem answer_col (r : Reply) (s : State) : (answer r s).col = s.col := rfl
@[simp] theorem answer_showCtrl (r : Reply) (s : State) : (answer r s).showCtrl = s.showCtrl := rfl
@[simp] theorem answer_flashVisible (r : Reply) (s : State) : (answer r s).flashVisible = s.flashVisible := rfl
@[simp] theorem answer_pageW (r : Reply) (s : State) : (answer r s).pageW = s.pageW := rfl
@[simp] theorem answer_pageH (r : Reply) (s : State) : (answer r s).pageH = s.pageH := rfl
@[simp] theorem answer_opstate (r : Reply) (s : State) : (answer r s).opstate = s.opstate := rfl
@[simp] theorem answer_err (r : Reply) (s : State) : (answer r s).err = s.err := rfl
@[simp] theorem answer_page (r : Reply) (s : State) : (answer r s).page = s.page := rfl
@[simp] theorem answer_font (r : Reply) (s : State) : (answer r s).font = s.font := rfl
@[simp] theorem answer_icon (r : Reply) (s : State) : (answer r s).icon = s.icon := rfl
@[simp] theorem answer_raster (r : Reply) (s : State) : (answer r s).raster = s.raster := rfl
@[simp] theorem answer_requests (r : Reply) (s : State) : (answer r s).requests = s.requests := rfl
@[simp] theorem answer_reply (r : Reply) (s : State) :
    (answer r s).reply = some r := rfl

/-! ## refuse -/

@[simp] theorem refuse_rs (s : State) : (refuse s).rs = s.rs := rfl
@[simp] theorem refuse_bottomHalf (s : State) : (refuse s).bottomHalf = s.bottomHalf := rfl
@[simp] theorem refuse_carry (s : State) : (refuse s).carry = s.carry := rfl
@[simp] theorem refuse_row (s : State) : (refuse s).row = s.row := rfl
@[simp] theorem refuse_col (s : State) : (refuse s).col = s.col := rfl
@[simp] theorem refuse_showCtrl (s : State) : (refuse s).showCtrl = s.showCtrl := rfl
@[simp] theorem refuse_flashVisible (s : State) : (refuse s).flashVisible = s.flashVisible := rfl
@[simp] theorem refuse_pageW (s : State) : (refuse s).pageW = s.pageW := rfl
@[simp] theorem refuse_pageH (s : State) : (refuse s).pageH = s.pageH := rfl
@[simp] theorem refuse_opstate (s : State) : (refuse s).opstate = s.opstate := rfl
@[simp] theorem refuse_err (s : State) : (refuse s).err = s.err := rfl
@[simp] theorem refuse_page (s : State) : (refuse s).page = s.page := rfl
@[simp] theorem refuse_font (s : State) : (refuse s).font = s.font := rfl
@[simp] theorem refuse_icon (s : State) : (refuse s).icon = s.icon := rfl
@[simp] theorem refuse_raster (s : State) : (refuse s).raster = s.raster := rfl
@[simp] theorem refuse_requests (s : State) : (refuse s).requests = s.requests := rfl
@[simp] theorem refuse_reply (s : State) :
    (refuse s).reply = some .refused := rfl

/-! ## clearError -/

@[simp] theorem clearError_rs (s : State) : (clearError s).rs = s.rs := rfl
@[simp] theorem clearError_bottomHalf (s : State) : (clearError s).bottomHalf = s.bottomHalf := rfl
@[simp] theorem clearError_carry (s : State) : (clearError s).carry = s.carry := rfl
@[simp] theorem clearError_row (s : State) : (clearError s).row = s.row := rfl
@[simp] theorem clearError_col (s : State) : (clearError s).col = s.col := rfl
@[simp] theorem clearError_showCtrl (s : State) : (clearError s).showCtrl = s.showCtrl := rfl
@[simp] theorem clearError_flashVisible (s : State) : (clearError s).flashVisible = s.flashVisible := rfl
@[simp] theorem clearError_pageW (s : State) : (clearError s).pageW = s.pageW := rfl
@[simp] theorem clearError_pageH (s : State) : (clearError s).pageH = s.pageH := rfl
@[simp] theorem clearError_opstate (s : State) : (clearError s).opstate = s.opstate := rfl
@[simp] theorem clearError_err (s : State) :
    (clearError s).err = .none := rfl
@[simp] theorem clearError_page (s : State) : (clearError s).page = s.page := rfl
@[simp] theorem clearError_font (s : State) : (clearError s).font = s.font := rfl
@[simp] theorem clearError_icon (s : State) : (clearError s).icon = s.icon := rfl
@[simp] theorem clearError_raster (s : State) : (clearError s).raster = s.raster := rfl
@[simp] theorem clearError_requests (s : State) : (clearError s).requests = s.requests := rfl
@[simp] theorem clearError_reply (s : State) : (clearError s).reply = s.reply := rfl

/-! ## raiseError -/

@[simp] theorem raiseError_rs (e : ErrorCode) (s : State) : (raiseError e s).rs = s.rs := rfl
@[simp] theorem raiseError_bottomHalf (e : ErrorCode) (s : State) : (raiseError e s).bottomHalf = s.bottomHalf := rfl
@[simp] theorem raiseError_carry (e : ErrorCode) (s : State) : (raiseError e s).carry = s.carry := rfl
@[simp] theorem raiseError_row (e : ErrorCode) (s : State) : (raiseError e s).row = s.row := rfl
@[simp] theorem raiseError_col (e : ErrorCode) (s : State) : (raiseError e s).col = s.col := rfl
@[simp] theorem raiseError_showCtrl (e : ErrorCode) (s : State) : (raiseError e s).showCtrl = s.showCtrl := rfl
@[simp] theorem raiseError_flashVisible (e : ErrorCode) (s : State) : (raiseError e s).flashVisible = s.flashVisible := rfl
@[simp] theorem raiseError_pageW (e : ErrorCode) (s : State) : (raiseError e s).pageW = s.pageW := rfl
@[simp] theorem raiseError_pageH (e : ErrorCode) (s : State) : (raiseError e s).pageH = s.pageH := rfl
@[simp] theorem raiseError_opstate (e : ErrorCode) (s : State) :
    (raiseError e s).opstate = if e = .assetLoadError then .failed else s.opstate := rfl
@[simp] theorem raiseError_err (e : ErrorCode) (s : State) :
    (raiseError e s).err = e := rfl
@[simp] theorem raiseError_page (e : ErrorCode) (s : State) : (raiseError e s).page = s.page := rfl
@[simp] theorem raiseError_font (e : ErrorCode) (s : State) : (raiseError e s).font = s.font := rfl
@[simp] theorem raiseError_icon (e : ErrorCode) (s : State) : (raiseError e s).icon = s.icon := rfl
@[simp] theorem raiseError_raster (e : ErrorCode) (s : State) : (raiseError e s).raster = s.raster := rfl
@[simp] theorem raiseError_requests (e : ErrorCode) (s : State) : (raiseError e s).requests = s.requests := rfl
@[simp] theorem raiseError_reply (e : ErrorCode) (s : State) :
    (raiseError e s).reply = some (.error e) := rfl

/-! ## loadAssets -/

@[simp] theorem loadAssets_rs (f : List Byte) (ks : List (List (List Bool))) (s : State) : (loadAssets f ks s).rs = s.rs := rfl
@[simp] theorem loadAssets_bottomHalf (f : List Byte) (ks : List (List (List Bool))) (s : State) : (loadAssets f ks s).bottomHalf = s.bottomHalf := rfl
@[simp] theorem loadAssets_carry (f : List Byte) (ks : List (List (List Bool))) (s : State) : (loadAssets f ks s).carry = s.carry := rfl
@[simp] theorem loadAssets_row (f : List Byte) (ks : List (List (List Bool))) (s : State) : (loadAssets f ks s).row = s.row := rfl
@[simp] theorem loadAssets_col (f : List Byte) (ks : List (List (List Bool))) (s : State) : (loadAssets f ks s).col = s.col := rfl
@[simp] theorem loadAssets_showCtrl (f : List Byte) (ks : List (List (List Bool))) (s : State) : (loadAssets f ks s).showCtrl = s.showCtrl := rfl
@[simp] theorem loadAssets_flashVisible (f : List Byte) (ks : List (List (List Bool))) (s : State) : (loadAssets f ks s).flashVisible = s.flashVisible := rfl
@[simp] theorem loadAssets_pageW (f : List Byte) (ks : List (List (List Bool))) (s : State) : (loadAssets f ks s).pageW = s.pageW := rfl
@[simp] theorem loadAssets_pageH (f : List Byte) (ks : List (List (List Bool))) (s : State) : (loadAssets f ks s).pageH = s.pageH := rfl
@[simp] theorem loadAssets_opstate (f : List Byte) (ks : List (List (List Bool))) (s : State) :
    (loadAssets f ks s).opstate = .ready := rfl
@[simp] theorem loadAssets_err (f : List Byte) (ks : List (List (List Bool))) (s : State) : (loadAssets f ks s).err = s.err := rfl
@[simp] theorem loadAssets_page (f : List Byte) (ks : List (List (List Bool))) (s : State) : (loadAssets f ks s).page = s.page := rfl
@[simp] theorem loadAssets_font (f : List Byte) (ks : List (List (List Bool))) (s : State) :
    (loadAssets f ks s).font = memLoad f := rfl
@[simp] theorem loadAssets_icon (f : List Byte) (ks : List (List (List Bool))) (s : State) :
    (loadAssets f ks s).icon = bitLoad (iconBits ks) := rfl
@[simp] theorem loadAssets_raster (f : List Byte) (ks : List (List (List Bool))) (s : State) : (loadAssets f ks s).raster = s.raster := rfl
@[simp] theorem loadAssets_requests (f : List Byte) (ks : List (List (List Bool))) (s : State) : (loadAssets f ks s).requests = s.requests := rfl
@[simp] theorem loadAssets_reply (f : List Byte) (ks : List (List (List Bool))) (s : State) : (loadAssets f ks s).reply = s.reply := rfl

/-! ## startFrame -/

@[simp] theorem startFrame_rs (w h : Nat) (sc fv : Bool) (s : State) :
    (startFrame w h sc fv s).rs = rowStartState false := rfl
@[simp] theorem startFrame_bottomHalf (w h : Nat) (sc fv : Bool) (s : State) :
    (startFrame w h sc fv s).bottomHalf = false := rfl
@[simp] theorem startFrame_carry (w h : Nat) (sc fv : Bool) (s : State) :
    (startFrame w h sc fv s).carry = false := rfl
@[simp] theorem startFrame_row (w h : Nat) (sc fv : Bool) (s : State) :
    (startFrame w h sc fv s).row = 0 := rfl
@[simp] theorem startFrame_col (w h : Nat) (sc fv : Bool) (s : State) :
    (startFrame w h sc fv s).col = 0 := rfl
@[simp] theorem startFrame_showCtrl (w h : Nat) (sc fv : Bool) (s : State) :
    (startFrame w h sc fv s).showCtrl = sc := rfl
@[simp] theorem startFrame_flashVisible (w h : Nat) (sc fv : Bool) (s : State) :
    (startFrame w h sc fv s).flashVisible = fv := rfl
@[simp] theorem startFrame_pageW (w h : Nat) (sc fv : Bool) (s : State) :
    (startFrame w h sc fv s).pageW = w := rfl
@[simp] theorem startFrame_pageH (w h : Nat) (sc fv : Bool) (s : State) :
    (startFrame w h sc fv s).pageH = h := rfl
@[simp] theorem startFrame_opstate (w h : Nat) (sc fv : Bool) (s : State) :
    (startFrame w h sc fv s).opstate = .rendering := rfl
@[simp] theorem startFrame_err (w h : Nat) (sc fv : Bool) (s : State) :
    (startFrame w h sc fv s).err = .none := rfl
@[simp] theorem startFrame_page (w h : Nat) (sc fv : Bool) (s : State) : (startFrame w h sc fv s).page = s.page := rfl
@[simp] theorem startFrame_font (w h : Nat) (sc fv : Bool) (s : State) : (startFrame w h sc fv s).font = s.font := rfl
@[simp] theorem startFrame_icon (w h : Nat) (sc fv : Bool) (s : State) : (startFrame w h sc fv s).icon = s.icon := rfl
@[simp] theorem startFrame_raster (w h : Nat) (sc fv : Bool) (s : State) :
    (startFrame w h sc fv s).raster = [] := rfl
@[simp] theorem startFrame_requests (w h : Nat) (sc fv : Bool) (s : State) : (startFrame w h sc fv s).requests = s.requests := rfl
@[simp] theorem startFrame_reply (w h : Nat) (sc fv : Bool) (s : State) :
    (startFrame w h sc fv s).reply = none := rfl

/-! ## withFetchWord -/

@[simp] theorem withFetchWord_rs (nbits w : Nat) (s : State) : (s.withFetchWord nbits w).rs = s.rs := rfl
@[simp] theorem withFetchWord_bottomHalf (nbits w : Nat) (s : State) : (s.withFetchWord nbits w).bottomHalf = s.bottomHalf := rfl
@[simp] theorem withFetchWord_carry (nbits w : Nat) (s : State) : (s.withFetchWord nbits w).carry = s.carry := rfl
@[simp] theorem withFetchWord_row (nbits w : Nat) (s : State) : (s.withFetchWord nbits w).row = s.row := rfl
@[simp] theorem withFetchWord_col (nbits w : Nat) (s : State) : (s.withFetchWord nbits w).col = s.col := rfl
@[simp] theorem withFetchWord_showCtrl (nbits w : Nat) (s : State) : (s.withFetchWord nbits w).showCtrl = s.showCtrl := rfl
@[simp] theorem withFetchWord_flashVisible (nbits w : Nat) (s : State) : (s.withFetchWord nbits w).flashVisible = s.flashVisible := rfl
@[simp] theorem withFetchWord_pageW (nbits w : Nat) (s : State) : (s.withFetchWord nbits w).pageW = s.pageW := rfl
@[simp] theorem withFetchWord_pageH (nbits w : Nat) (s : State) : (s.withFetchWord nbits w).pageH = s.pageH := rfl
@[simp] theorem withFetchWord_opstate (nbits w : Nat) (s : State) :
    (s.withFetchWord nbits w).opstate = .rendering := rfl
@[simp] theorem withFetchWord_err (nbits w : Nat) (s : State) : (s.withFetchWord nbits w).err = s.err := rfl
@[simp] theorem withFetchWord_page (nbits w : Nat) (s : State) :
    (s.withFetchWord nbits w).page = memWrite s.page s.scan (tableByte nbits w) := rfl
@[simp] theorem withFetchWord_font (nbits w : Nat) (s : State) : (s.withFetchWord nbits w).font = s.font := rfl
@[simp] theorem withFetchWord_icon (nbits w : Nat) (s : State) : (s.withFetchWord nbits w).icon = s.icon := rfl
@[simp] theorem withFetchWord_raster (nbits w : Nat) (s : State) : (s.withFetchWord nbits w).raster = s.raster := rfl
@[simp] theorem withFetchWord_requests (nbits w : Nat) (s : State) : (s.withFetchWord nbits w).requests = s.requests := rfl
@[simp] theorem withFetchWord_reply (nbits w : Nat) (s : State) : (s.withFetchWord nbits w).reply = s.reply := rfl

/-! ## advance -/

@[simp] theorem advance_rs (s : State) : (advance s).rs = s.rs := by
  unfold advance; split; · rfl
  · split <;> rfl
@[simp] theorem advance_bottomHalf (s : State) : (advance s).bottomHalf = s.bottomHalf := by
  unfold advance; split; · rfl
  · split <;> rfl
@[simp] theorem advance_showCtrl (s : State) : (advance s).showCtrl = s.showCtrl := by
  unfold advance; split; · rfl
  · split <;> rfl
@[simp] theorem advance_flashVisible (s : State) : (advance s).flashVisible = s.flashVisible := by
  unfold advance; split; · rfl
  · split <;> rfl
@[simp] theorem advance_pageW (s : State) : (advance s).pageW = s.pageW := by
  unfold advance; split; · rfl
  · split <;> rfl
@[simp] theorem advance_pageH (s : State) : (advance s).pageH = s.pageH := by
  unfold advance; split; · rfl
  · split <;> rfl
@[simp] theorem advance_err (s : State) : (advance s).err = s.err := by
  unfold advance; split; · rfl
  · split <;> rfl
@[simp] theorem advance_page (s : State) : (advance s).page = s.page := by
  unfold advance; split; · rfl
  · split <;> rfl
@[simp] theorem advance_font (s : State) : (advance s).font = s.font := by
  unfold advance; split; · rfl
  · split <;> rfl
@[simp] theorem advance_icon (s : State) : (advance s).icon = s.icon := by
  unfold advance; split; · rfl
  · split <;> rfl
@[simp] theorem advance_raster (s : State) : (advance s).raster = s.raster := by
  unfold advance; split; · rfl
  · split <;> rfl
@[simp] theorem advance_requests (s : State) : (advance s).requests = s.requests := by
  unfold advance; split; · rfl
  · split <;> rfl

/-! ## rowEntry -/

@[simp] theorem rowEntry_carry (s : State) : (rowEntry s).carry = s.carry := by
  unfold rowEntry; split <;> rfl
@[simp] theorem rowEntry_row (s : State) : (rowEntry s).row = s.row := by
  unfold rowEntry; split <;> rfl
@[simp] theorem rowEntry_col (s : State) : (rowEntry s).col = s.col := by
  unfold rowEntry; split <;> rfl
@[simp] theorem rowEntry_showCtrl (s : State) : (rowEntry s).showCtrl = s.showCtrl := by
  unfold rowEntry; split <;> rfl
@[simp] theorem rowEntry_flashVisible (s : State) : (rowEntry s).flashVisible = s.flashVisible := by
  unfold rowEntry; split <;> rfl
@[simp] theorem rowEntry_pageW (s : State) : (rowEntry s).pageW = s.pageW := by
  unfold rowEntry; split <;> rfl
@[simp] theorem rowEntry_pageH (s : State) : (rowEntry s).pageH = s.pageH := by
  unfold rowEntry; split <;> rfl
@[simp] theorem rowEntry_opstate (s : State) : (rowEntry s).opstate = s.opstate := by
  unfold rowEntry; split <;> rfl
@[simp] theorem rowEntry_err (s : State) : (rowEntry s).err = s.err := by
  unfold rowEntry; split <;> rfl
@[simp] theorem rowEntry_page (s : State) : (rowEntry s).page = s.page := by
  unfold rowEntry; split <;> rfl
@[simp] theorem rowEntry_font (s : State) : (rowEntry s).font = s.font := by
  unfold rowEntry; split <;> rfl
@[simp] theorem rowEntry_icon (s : State) : (rowEntry s).icon = s.icon := by
  unfold rowEntry; split <;> rfl
@[simp] theorem rowEntry_raster (s : State) : (rowEntry s).raster = s.raster := by
  unfold rowEntry; split <;> rfl
@[simp] theorem rowEntry_requests (s : State) : (rowEntry s).requests = s.requests := by
  unfold rowEntry; split <;> rfl
@[simp] theorem rowEntry_reply (s : State) : (rowEntry s).reply = s.reply := by
  unfold rowEntry; split <;> rfl

/-! ## The row start and the scan advance by case -/

theorem rowEntry_of_col_zero {s : State} (h : s.col = 0) : rowEntry s = rowStart s := if_pos h

theorem rowEntry_of_col_ne_zero {s : State} (h : s.col ≠ 0) : rowEntry s = s := if_neg h

/-- The next cell of the row (10_state.md R26). -/
theorem advance_in_row {s : State} (h : s.col.val < 39) :
    advance s = { s with col := ⟨s.col.val + 1, Nat.succ_lt_succ h⟩ } := by
  simp [advance, h]

/-- The next row (10_state.md R22, R27). -/
theorem advance_row_end {s : State} (h : ¬ s.col.val < 39) (h' : s.row.val < 24) :
    advance s = { s with carry := s.rs.nextDoubleHeight, row := ⟨s.row.val + 1, Nat.succ_lt_succ h'⟩, col := 0 } := by
  simp [advance, h, h']

/-- The end of the frame (10_state.md R27). -/
theorem advance_frame_end {s : State} (h : ¬ s.col.val < 39) (h' : ¬ s.row.val < 24) :
    advance s = { s with carry := s.rs.nextDoubleHeight, opstate := .ready, reply := some .completed } := by
  simp [advance, h, h']

/-- Everything the end of a cell step can do, in one case distinction. -/
theorem advance_cases (s : State) :
    (∃ h : s.col.val < 39, advance s = { s with col := ⟨s.col.val + 1, Nat.succ_lt_succ h⟩ }) ∨
    (s.col.val = 39 ∧ ∃ h : s.row.val < 24,
      advance s =
        { s with carry := s.rs.nextDoubleHeight, row := ⟨s.row.val + 1, Nat.succ_lt_succ h⟩, col := 0 }) ∨
    (s.col.val = 39 ∧ s.row.val = 24 ∧
      advance s = { s with carry := s.rs.nextDoubleHeight, opstate := .ready, reply := some .completed }) := by
  have h1 := s.col.isLt
  have h2 := s.row.isLt
  by_cases h : s.col.val < 39
  · exact .inl ⟨h, advance_in_row h⟩
  · by_cases h' : s.row.val < 24
    · exact .inr (.inl ⟨by omega, h', advance_row_end h h'⟩)
    · exact .inr (.inr ⟨by omega, by omega, advance_frame_end h h'⟩)

end Sys2Proof.Machine
end

