-- ==== Sys2Proof/Laws/Cell.lean ====
section
/-! SUPPORT. What a cell step does: the pixels of its image, where they stand in RASTER, and what is left alone. -/

namespace Sys2Proof.Machine

/-! ## Images -/

theorem grid_row {α : Type} (f : Nat → Nat → α) {py : Nat} (hy : py < 18) (d : List α) :
    (grid f).getD py d = (List.range 12).map fun px => f py px := by
  simp [grid, Config.glyphHeight, Config.glyphWidth, hy]

theorem pixelOf_grid (f : Nat → Nat → Colour) {py px : Nat} (hy : py < 18) (hx : px < 12) :
    pixelOf (grid f) py px = f py px := by
  rw [pixelOf, grid_row f hy]
  simp [hx]

theorem grid_pixel {α : Type} (f : Nat → Nat → α) {py px : Nat} (hy : py < 18) (hx : px < 12) :
    ((grid f).getD py [])[px]? = some (f py px) := by
  rw [grid_row f hy]
  simp [hx]

theorem grid_length {α : Type} (f : Nat → Nat → α) : (grid f).length = 18 := by simp [grid, Config.glyphHeight]

theorem grid_row_length {α : Type} (f : Nat → Nat → α) {r : List α} (h : r ∈ grid f) : r.length = 12 := by
  obtain ⟨py, -, rfl⟩ := List.mem_map.1 h
  simp [Config.glyphWidth]

/-- The final colour of a pixel: the stencil, then the overlay on it when there is an icon and `show_ctrl` is set. -/
def cellPixel (s : State) (code : Code) (actual : Option Code) (py px : Nat) : Colour :=
  let cur := if glyphBit s code py px then s.rs.foreground else s.rs.background
  match actual with
  | some k =>
    if s.showCtrl then overlayPixel s.rs.foreground s.rs.background (iconBit s.icon k py px) cur else cur
  | none => cur

/-- The image of a cell is the grid of its final pixels. -/
theorem cellImage_pixel (s : State) (code : Code) (actual : Option Code) {py px : Nat} (hy : py < 18) (hx : px < 12) :
    ((cellImage s code actual).getD py [])[px]? = some (cellPixel s code actual py px) := by
  cases actual with
  | none =>
    simp only [cellImage, stencil, cellPixel]
    exact grid_pixel _ hy hx
  | some k =>
    simp only [cellImage, overlay, cellPixel]
    split
    · rw [grid_pixel _ hy hx, stencil, pixelOf_grid _ hy hx]
    · exact grid_pixel _ hy hx

theorem cellImage_length (s : State) (code : Code) (actual : Option Code) :
    (cellImage s code actual).length = 18 ∧ ∀ r ∈ cellImage s code actual, r.length = 12 := by
  cases actual with
  | none =>
    simp only [cellImage, stencil]
    exact ⟨grid_length _, fun r h => grid_row_length _ h⟩
  | some k =>
    simp only [cellImage, overlay]
    split
    · exact ⟨grid_length _, fun r h => grid_row_length _ h⟩
    · exact ⟨grid_length _, fun r h => grid_row_length _ h⟩

/-! ## RASTER -/

theorem scan_eq (s : State) : s.scan = 40 * s.row.val + s.col.val := rfl

theorem rasterAt_congr {s t : State} (h : s.raster = t.raster) (X Y : Nat) : s.rasterAt X Y = t.rasterAt X Y := by
  simp [State.rasterAt, h]

@[simp] theorem rasterAt_advance (s : State) (X Y : Nat) : (advance s).rasterAt X Y = s.rasterAt X Y :=
  rasterAt_congr (by simp) X Y

/-- A pixel of the cell just drawn. -/
theorem rasterAt_drawCell_inside (img : CellImage) (s : State) {py px : Nat} (hy : py < 18) (hx : px < 12) :
    (drawCell img s).rasterAt (12 * s.col.val + px) (18 * s.row.val + py) = (img.getD py [])[px]? := by
  have h1 := s.col.isLt
  have h2 := s.row.isLt
  have hX : (12 * s.col.val + px) / 12 = s.col.val := by omega
  have hY : (18 * s.row.val + py) / 18 = s.row.val := by omega
  have hx' : (12 * s.col.val + px) % 12 = px := by omega
  have hy' : (18 * s.row.val + py) % 18 = py := by omega
  have hr : 12 * s.col.val + px < 480 ∧ 18 * s.row.val + py < 450 := by omega
  simp [State.rasterAt, hX, hY, hx', hy', State.scan, Config.rasterWidth, Config.rasterHeight, hr.1, hr.2]

/-- A location outside the cell just drawn. -/
theorem rasterAt_drawCell_outside (img : CellImage) (s : State) {X Y : Nat}
    (h : ¬ (12 * s.col.val ≤ X ∧ X < 12 * s.col.val + 12 ∧ 18 * s.row.val ≤ Y ∧ Y < 18 * s.row.val + 18)) :
    (drawCell img s).rasterAt X Y = s.rasterAt X Y := by
  have h1 := s.col.isLt
  have h2 := s.row.isLt
  by_cases hr : X < 480 ∧ Y < 450
  · have hne : pageAddr (Y / 18) (X / 12) ≠ s.scan := by
      simp only [State.scan, pageAddr]
      omega
    simp [State.rasterAt, hne]
  · simp [State.rasterAt, Config.rasterWidth, Config.rasterHeight, hr]

/-! ## The cell step -/

@[simp] theorem finishCell_rs (code : Code) (actual : Option Code) (s : State) :
    (finishCell code actual s).rs = recordGraphic code s.rs := by
  simp [finishCell]

/-- The 216 pixels a cell step writes. -/
theorem rasterAt_finishCell_inside (code : Code) (actual : Option Code) (s : State) {py px : Nat} (hy : py < 18)
    (hx : px < 12) :
    (finishCell code actual s).rasterAt (12 * s.col.val + px) (18 * s.row.val + py) =
      some (cellPixel s (flashedCode s.rs s.flashVisible code) actual py px) := by
  rw [finishCell, rasterAt_advance]
  exact (rasterAt_drawCell_inside _ { s with rs := recordGraphic code s.rs } hy hx).trans
    (cellImage_pixel s _ actual hy hx)

/-- Every other location of RASTER is left as it was. -/
theorem rasterAt_finishCell_outside (code : Code) (actual : Option Code) (s : State) {X Y : Nat}
    (h : ¬ (12 * s.col.val ≤ X ∧ X < 12 * s.col.val + 12 ∧ 18 * s.row.val ≤ Y ∧ Y < 18 * s.row.val + 18)) :
    (finishCell code actual s).rasterAt X Y = s.rasterAt X Y := by
  rw [finishCell, rasterAt_advance]
  exact (rasterAt_drawCell_outside _ { s with rs := recordGraphic code s.rs } h).trans (rasterAt_congr rfl X Y)

/-- The record of a control cell's own substituted code never changes RowState (42_cell_pipeline.md R137). -/
theorem recordGraphic_substituted (rs : RowState) : recordGraphic (substitutedCode rs) rs = rs := by
  obtain ⟨sep, hold, gfx, dh, ndh, fl, fg, bg, lgc⟩ := rs
  unfold recordGraphic substitutedCode
  cases hold <;> cases gfx <;> simp [graphicsCapable, Config.blankCode]

/-- Everything a control cell does: it completes, RowState is the code's effect, the rest is `finishCell`. -/
theorem controlCell_next (actual : Code) (effect : Bool → RowState → RowState) (s : State) :
    ∃ t, controlCell actual effect s = .next t ∧
      t = finishCell (substitutedCode (effect s.bottomHalf s.rs)) (some actual)
        { s with rs := effect s.bottomHalf s.rs } ∧
      t.rs = effect s.bottomHalf s.rs :=
  ⟨_, rfl, rfl, by rw [finishCell_rs]; exact recordGraphic_substituted _⟩

/-- Everything a display cell does. -/
theorem displayCell_next (code : Code) (s : State) :
    displayCell code s = .next (finishCell code none s) := rfl

end Sys2Proof.Machine
end

