-- ==== Sys2Proof/Laws/Exec.lean ====
section
/-! SUPPORT. What exec does with every instruction, in the two shapes of a cell: a control cell or a display cell. -/

namespace Sys2Proof.Machine

/-- Every instruction is a control cell of a code below 32 or a display cell of its operand. -/
theorem exec_shape (i : Instr) :
    (∃ actual : Code, ∃ effect, actual.toNat < 32 ∧ ∀ s, exec i s = controlCell actual effect s) ∨
    ∃ code, ∀ s, exec i s = displayCell code s := by
  cases i
  case dispG0 c => exact .inr ⟨c, fun _ => rfl⟩
  case dispT c => exact .inr ⟨c, fun _ => rfl⟩
  case dispG1 c => exact .inr ⟨c, fun _ => rfl⟩
  case nop00 => unfold exec execNop00; exact .inl ⟨_, _, by decide, fun _ => rfl⟩
  case nop0A => unfold exec execNop0A; exact .inl ⟨_, _, by decide, fun _ => rfl⟩
  case nop0B => unfold exec execNop0B; exact .inl ⟨_, _, by decide, fun _ => rfl⟩
  case nop0E => unfold exec execNop0E; exact .inl ⟨_, _, by decide, fun _ => rfl⟩
  case nop0F => unfold exec execNop0F; exact .inl ⟨_, _, by decide, fun _ => rfl⟩
  case nop10 => unfold exec execNop10; exact .inl ⟨_, _, by decide, fun _ => rfl⟩
  case nop18 => unfold exec execNop18; exact .inl ⟨_, _, by decide, fun _ => rfl⟩
  case nop1B => unfold exec execNop1B; exact .inl ⟨_, _, by decide, fun _ => rfl⟩
  case alphaRed => unfold exec execAlphaRed; exact .inl ⟨_, _, by decide, fun _ => rfl⟩
  case alphaGreen => unfold exec execAlphaGreen; exact .inl ⟨_, _, by decide, fun _ => rfl⟩
  case alphaYellow => unfold exec execAlphaYellow; exact .inl ⟨_, _, by decide, fun _ => rfl⟩
  case alphaBlue => unfold exec execAlphaBlue; exact .inl ⟨_, _, by decide, fun _ => rfl⟩
  case alphaMagenta => unfold exec execAlphaMagenta; exact .inl ⟨_, _, by decide, fun _ => rfl⟩
  case alphaCyan => unfold exec execAlphaCyan; exact .inl ⟨_, _, by decide, fun _ => rfl⟩
  case alphaWhite => unfold exec execAlphaWhite; exact .inl ⟨_, _, by decide, fun _ => rfl⟩
  case gfxRed => unfold exec execGfxRed; exact .inl ⟨_, _, by decide, fun _ => rfl⟩
  case gfxGreen => unfold exec execGfxGreen; exact .inl ⟨_, _, by decide, fun _ => rfl⟩
  case gfxYellow => unfold exec execGfxYellow; exact .inl ⟨_, _, by decide, fun _ => rfl⟩
  case gfxBlue => unfold exec execGfxBlue; exact .inl ⟨_, _, by decide, fun _ => rfl⟩
  case gfxMagenta => unfold exec execGfxMagenta; exact .inl ⟨_, _, by decide, fun _ => rfl⟩
  case gfxCyan => unfold exec execGfxCyan; exact .inl ⟨_, _, by decide, fun _ => rfl⟩
  case gfxWhite => unfold exec execGfxWhite; exact .inl ⟨_, _, by decide, fun _ => rfl⟩
  case flashOn => unfold exec execFlashOn; exact .inl ⟨_, _, by decide, fun _ => rfl⟩
  case flashOff => unfold exec execFlashOff; exact .inl ⟨_, _, by decide, fun _ => rfl⟩
  case normalHeight => unfold exec execNormalHeight; exact .inl ⟨_, _, by decide, fun _ => rfl⟩
  case doubleHeight => unfold exec execDoubleHeight; exact .inl ⟨_, _, by decide, fun _ => rfl⟩
  case contiguousGfx => unfold exec execContiguousGfx; exact .inl ⟨_, _, by decide, fun _ => rfl⟩
  case separatedGfx => unfold exec execSeparatedGfx; exact .inl ⟨_, _, by decide, fun _ => rfl⟩
  case blackBg => unfold exec execBlackBg; exact .inl ⟨_, _, by decide, fun _ => rfl⟩
  case newBg => unfold exec execNewBg; exact .inl ⟨_, _, by decide, fun _ => rfl⟩
  case holdGfx => unfold exec execHoldGfx; exact .inl ⟨_, _, by decide, fun _ => rfl⟩
  case releaseGfx => unfold exec execReleaseGfx; exact .inl ⟨_, _, by decide, fun _ => rfl⟩

/-- Every instruction ends in `finishCell`: the code shown and the new RowState depend on the latch and on RowState
alone, an icon belongs to a code below 32. -/
theorem exec_finishes (i : Instr) :
    ∃ (code : Bool → RowState → Code) (actual : Option Code) (effect : Bool → RowState → RowState),
      (∀ k, actual = some k → k.toNat < 32) ∧
      ∀ s, exec i s =
        .next (finishCell (code s.bottomHalf s.rs) actual { s with rs := effect s.bottomHalf s.rs }) := by
  rcases exec_shape i with ⟨a, e, ha, h⟩ | ⟨c, h⟩
  · exact ⟨fun b rs => substitutedCode (e b rs), some a, e, fun _ hk => Option.some.inj hk ▸ ha, h⟩
  · exact ⟨fun _ _ => c, none, fun _ rs => rs, (fun _ hk => nomatch hk), h⟩

end Sys2Proof.Machine
end

