-- ==== Sys2Proof/Laws/PerInstr.lean ====
section
/-! SUPPORT. The family of statements made per instruction: an instruction is one byte whose bit 7 the encoder writes 0
(30_encoding.md R70, R79). -/

namespace Sys2Proof.Laws.OneByte

/-- The encoding of `i` is one byte with bit 7 clear. -/
def Statement (i : Instr) : Prop := (encode i).length = 1 ∧ ∀ b ∈ encode i, b.getLsbD 7 = false

/-- The family's one idea: a seven-bit code widened to a byte has bit 7 clear. -/
theorem of_code (i : Instr) : Statement i := by
  refine ⟨rfl, fun b hb => ?_⟩
  rw [List.mem_singleton.1 hb]
  simp

theorem nop00 : Statement .nop00 := of_code _
theorem alphaRed : Statement .alphaRed := of_code _
theorem alphaGreen : Statement .alphaGreen := of_code _
theorem alphaYellow : Statement .alphaYellow := of_code _
theorem alphaBlue : Statement .alphaBlue := of_code _
theorem alphaMagenta : Statement .alphaMagenta := of_code _
theorem alphaCyan : Statement .alphaCyan := of_code _
theorem alphaWhite : Statement .alphaWhite := of_code _
theorem flashOn : Statement .flashOn := of_code _
theorem flashOff : Statement .flashOff := of_code _
theorem nop0A : Statement .nop0A := of_code _
theorem nop0B : Statement .nop0B := of_code _
theorem normalHeight : Statement .normalHeight := of_code _
theorem doubleHeight : Statement .doubleHeight := of_code _
theorem nop0E : Statement .nop0E := of_code _
theorem nop0F : Statement .nop0F := of_code _
theorem nop10 : Statement .nop10 := of_code _
theorem gfxRed : Statement .gfxRed := of_code _
theorem gfxGreen : Statement .gfxGreen := of_code _
theorem gfxYellow : Statement .gfxYellow := of_code _
theorem gfxBlue : Statement .gfxBlue := of_code _
theorem gfxMagenta : Statement .gfxMagenta := of_code _
theorem gfxCyan : Statement .gfxCyan := of_code _
theorem gfxWhite : Statement .gfxWhite := of_code _
theorem nop18 : Statement .nop18 := of_code _
theorem contiguousGfx : Statement .contiguousGfx := of_code _
theorem separatedGfx : Statement .separatedGfx := of_code _
theorem nop1B : Statement .nop1B := of_code _
theorem blackBg : Statement .blackBg := of_code _
theorem newBg : Statement .newBg := of_code _
theorem holdGfx : Statement .holdGfx := of_code _
theorem releaseGfx : Statement .releaseGfx := of_code _
theorem dispG0 (code : Code) : Statement (.dispG0 code) := of_code _
theorem dispT (code : Code) : Statement (.dispT code) := of_code _
theorem dispG1 (code : Code) : Statement (.dispG1 code) := of_code _

end Sys2Proof.Laws.OneByte
end

