-- ==== Sys2Proof/Laws/Requests.lean ====
section
/-! SUPPORT. What the host's requests can do: which assets BUILD accepts, where their bits land, what each request leaves,
and that PAGE keeps its canonical form. -/

namespace Sys2Proof.Machine

/-! ## The assets of BUILD (40_glyphset.md R102) -/

theorem iconGeometryOk_iff (mask : List (List Bool)) :
    iconGeometryOk mask = true ↔ mask.length = 18 ∧ ∀ r ∈ mask, r.length = 12 := by
  simp [iconGeometryOk]

/-- What BUILD accepts. -/
theorem acceptedAssets_some {font : Option (List Byte)} {icons : Option (List (List (List Bool)))} {f : List Byte}
    {ks : List (List (List Bool))} (h : acceptedAssets font icons = some (f, ks)) :
    font = some f ∧ icons = some ks ∧ f.length = 3456 ∧ ks.length = 32 ∧
      ∀ k ∈ ks, k.length = 18 ∧ ∀ r ∈ k, r.length = 12 := by
  unfold acceptedAssets at h
  split at h
  · cases h
  · split at h
    · cases h
    · rename_i hf
      split at h
      · cases h
      · split at h
        · cases h
        · rename_i hk
          split at h
          · rename_i ha
            injection h with h
            injection h with h1 h2
            subst h1 h2
            rw [List.all_eq_true] at ha
            exact ⟨rfl, rfl, not_not.1 hf, not_not.1 hk, fun k hk => (iconGeometryOk_iff k).1 (ha k hk)⟩
          · cases h

/-- BUILD accepts every pair of whole assets. -/
theorem acceptedAssets_of_whole {f : List Byte} {ks : List (List (List Bool))} (hf : f.length = 3456)
    (hk : ks.length = 32) (h : ∀ k ∈ ks, k.length = 18 ∧ ∀ r ∈ k, r.length = 12) :
    acceptedAssets (some f) (some ks) = some (f, ks) := by
  have ha : ks.all iconGeometryOk = true :=
    List.all_eq_true.2 fun k hk => (iconGeometryOk_iff k).2 (h k hk)
  simp [acceptedAssets, hf, hk, ha, Config.fontBytes, Config.iconCount]

/-! ## The bits of ICON (20_memory.md R43) -/

/-- The element `j` of part `i` of a list of parts of one length `n`. -/
theorem flatten_getElem? {α : Type} {parts : List (List α)} {n : Nat} (h : ∀ l ∈ parts, l.length = n) {i j : Nat}
    (hj : j < n) (hi : i < parts.length) : parts.flatten[n * i + j]? = (parts.getD i [])[j]? := by
  induction parts generalizing i with
  | nil => simp at hi
  | cons l parts ih =>
    have hl := h l (by simp)
    cases i with
    | zero => simp [List.getElem?_append, hl, hj]
    | succ i =>
      have := ih (fun l hl => h l (by simp [hl])) (i := i) (by simpa using hi)
      simp only [List.flatten_cons, List.getD_cons_succ]
      rw [List.getElem?_append_right (by rw [hl, Nat.mul_add]; omega), hl, ← this]
      congr 1
      rw [Nat.mul_add]
      omega

theorem flatten_length {α : Type} {parts : List (List α)} {n : Nat} (h : ∀ l ∈ parts, l.length = n) :
    parts.flatten.length = n * parts.length := by
  induction parts with
  | nil => simp
  | cons l parts ih =>
    rw [List.flatten_cons, List.length_append, h l (by simp), ih fun l hl => h l (by simp [hl]), List.length_cons,
      Nat.mul_add]
    omega

theorem iconBits_length {ks : List (List (List Bool))} (hk : ks.length = 32)
    (h : ∀ k ∈ ks, k.length = 18 ∧ ∀ r ∈ k, r.length = 12) : (iconBits ks).length = 6912 := by
  have hm : ∀ l ∈ ks.map List.flatten, l.length = 216 := by
    intro l hl
    obtain ⟨k, hk, rfl⟩ := List.mem_map.1 hl
    rw [flatten_length (h k hk).2, (h k hk).1]
  rw [iconBits, flatten_length hm, List.length_map, hk]

theorem getD_mem {α : Type} {l : List α} {i : Nat} {d : α} (h : i < l.length) : l.getD i d ∈ l := by
  simp [List.getD, h]

/-- The mask bit of icon `k` at `(py, px)` stands at its linear address. -/
theorem iconBits_getElem? {ks : List (List (List Bool))} (hk : ks.length = 32)
    (h : ∀ k ∈ ks, k.length = 18 ∧ ∀ r ∈ k, r.length = 12) {k py px : Nat} (hk' : k < 32) (hy : py < 18)
    (hx : px < 12) : (iconBits ks)[iconAddr k py px]? = ((ks.getD k []).getD py [])[px]? := by
  have hm : ∀ l ∈ ks.map List.flatten, l.length = 216 := by
    intro l hl
    obtain ⟨m, hm, rfl⟩ := List.mem_map.1 hl
    rw [flatten_length (h m hm).2, (h m hm).1]
  have hkl : k < ks.length := by omega
  have hg := h _ (getD_mem (l := ks) (d := []) hkl)
  have e : (ks.map List.flatten).getD k [] = (ks.getD k []).flatten := by simp [List.getD, hkl]
  rw [iconBits, iconAddr, show 216 * k + 12 * py + px = 216 * k + (12 * py + px) by omega,
    flatten_getElem? hm (by omega) (by simpa using hkl), e]
  exact flatten_getElem? hg.2 hx (by omega)

/-! ## What a request leaves -/

/-- Everything BUILD can do (45_host_operations.md R217). -/
theorem hostBuild_cases (font : Option (List Byte)) (icons : Option (List (List (List Bool)))) (s : State) :
    (s.opstate ≠ .unbuilt ∧ hostBuild font icons s = refuse s) ∨
    (s.opstate = .unbuilt ∧ acceptedAssets font icons = none ∧
      hostBuild font icons s = raiseError .assetLoadError s) ∨
    (s.opstate = .unbuilt ∧ ∃ f ks, acceptedAssets font icons = some (f, ks) ∧
      hostBuild font icons s = answer .ready (clearError (loadAssets f ks s))) := by
  by_cases ho : s.opstate = .unbuilt
  · cases ha : acceptedAssets font icons with
    | none => exact .inr (.inl ⟨ho, rfl, by simp [hostBuild, ho, ha]⟩)
    | some p => exact .inr (.inr ⟨ho, p.1, p.2, rfl, by simp [hostBuild, ho, ha]⟩)
  · exact .inl ⟨ho, by simp [hostBuild, ho]⟩

/-- Everything RENDER can do when it is asked for (45_host_operations.md R211). -/
theorem hostRender_cases (w h : Nat) (sc fv : Bool) (s : State) :
    (s.opstate ≠ .ready ∧ hostRender w h sc fv s = refuse s) ∨
    (s.opstate = .ready ∧ ¬ (w = 40 ∧ h = 25) ∧ hostRender w h sc fv s = raiseError .invalidInput s) ∨
    (s.opstate = .ready ∧ (w = 40 ∧ h = 25) ∧ hostRender w h sc fv s = startFrame w h sc fv s) := by
  by_cases ho : s.opstate = .ready
  · by_cases hd : w = 40 ∧ h = 25
    · exact .inr (.inr ⟨ho, hd, by simp [hostRender, ho, hd, Config.pageCols, Config.pageRows]⟩)
    · exact .inr (.inl ⟨ho, hd, by simp [hostRender, ho, hd, Config.pageCols, Config.pageRows]⟩)
  · exact .inl ⟨ho, by simp [hostRender, ho]⟩

/-! ## The sixel port -/

theorem sixelIndex_lt (x y : Nat) : sixelIndex x y < 6 := by
  unfold sixelIndex
  omega

theorem sixelBit_lt {i : Nat} (h : i < 6) : sixelBit i < 7 ∧ sixelBit i ≠ 5 := by
  interval_cases i <;> decide

theorem sixelBit_injective {i j : Nat} (hi : i < 6) (hj : j < 6) (h : sixelBit i = sixelBit j) : i = j := by
  interval_cases i <;> interval_cases j <;> simp_all [sixelBit]

theorem sixelCell_lt {x y : Nat} (h : sixelLegal x y = true) : sixelCell x y < 1000 := by
  simp only [sixelLegal, decide_eq_true_eq] at h
  simp only [sixelCell, pageAddr]
  omega

/-- A sixel `set` keeps PAGE canonical. -/
theorem sixelSet_wf {page : Memory} {x y : Nat} (mode : SetMode) (hp : Memory.wf 1000 page)
    (h : sixelLegal x y = true) : Memory.wf 1000 (sixelSet page x y mode) :=
  memWrite_wf _ hp (sixelCell_lt h)

/-- The images of RASTER stay in scan order when a cell is drawn. -/
theorem drawCell_raster_sorted (img : CellImage) {s : State} (h : storeSorted s.raster) :
    storeSorted (drawCell img s).raster := storePut_sorted _ _ h

end Sys2Proof.Machine
end

