-- ==== Sys2Proof/Tests/Slice0.lean ====
section
/-! SUPPORT. Tests of the model on the spec's own vectors (95_test_vectors.md), the refusals of WellFormed, a word written
out for every row of the opcode map, and a witness for every statement that has hypotheses. -/

namespace Sys2Proof.Tests

open Sys2Proof Sys2Proof.Machine

/-! ## WellFormed refuses each ill-formed term (30_encoding.md R71) -/

theorem test_wf_dispG0_refuses_text : (Instr.dispG0 0x41).wf = false := by decide
theorem test_wf_dispG0_refuses_control : (Instr.dispG0 0x1F).wf = false := by decide
theorem test_wf_dispT_refuses_graphic : (Instr.dispT 0x66).wf = false := by decide
theorem test_wf_dispG1_refuses_low_graphic : (Instr.dispG1 0x35).wf = false := by decide
theorem test_wf_accepts_each_class :
    (Instr.dispG0 0x3F).wf = true ∧ (Instr.dispT 0x40).wf = true ∧ (Instr.dispG1 0x7F).wf = true ∧
    Instr.newBg.wf = true := by decide

/-! ## Decoding: each word written out from the opcode map (30_encoding.md R75) -/

theorem test_decode_nop00 : decodeTableWord 8 0b00000000 = some .nop00 := by decide
theorem test_decode_alphaRed : decodeTableWord 8 0b00000001 = some .alphaRed := by decide
theorem test_decode_alphaGreen : decodeTableWord 8 0b00000010 = some .alphaGreen := by decide
theorem test_decode_alphaYellow : decodeTableWord 8 0b00000011 = some .alphaYellow := by decide
theorem test_decode_alphaBlue : decodeTableWord 8 0b00000100 = some .alphaBlue := by decide
theorem test_decode_alphaMagenta : decodeTableWord 8 0b00000101 = some .alphaMagenta := by decide
theorem test_decode_alphaCyan : decodeTableWord 8 0b00000110 = some .alphaCyan := by decide
theorem test_decode_alphaWhite : decodeTableWord 8 0b00000111 = some .alphaWhite := by decide
theorem test_decode_flashOn : decodeTableWord 8 0b00001000 = some .flashOn := by decide
theorem test_decode_flashOff : decodeTableWord 8 0b00001001 = some .flashOff := by decide
theorem test_decode_nop0A : decodeTableWord 8 0b00001010 = some .nop0A := by decide
theorem test_decode_nop0B : decodeTableWord 8 0b00001011 = some .nop0B := by decide
theorem test_decode_normalHeight : decodeTableWord 8 0b00001100 = some .normalHeight := by decide
theorem test_decode_doubleHeight : decodeTableWord 8 0b00001101 = some .doubleHeight := by decide
theorem test_decode_nop0E : decodeTableWord 8 0b00001110 = some .nop0E := by decide
theorem test_decode_nop0F : decodeTableWord 8 0b00001111 = some .nop0F := by decide
theorem test_decode_nop10 : decodeTableWord 8 0b00010000 = some .nop10 := by decide
theorem test_decode_gfxRed : decodeTableWord 8 0b00010001 = some .gfxRed := by decide
theorem test_decode_gfxGreen : decodeTableWord 8 0b00010010 = some .gfxGreen := by decide
theorem test_decode_gfxYellow : decodeTableWord 8 0b00010011 = some .gfxYellow := by decide
theorem test_decode_gfxBlue : decodeTableWord 8 0b00010100 = some .gfxBlue := by decide
theorem test_decode_gfxMagenta : decodeTableWord 8 0b00010101 = some .gfxMagenta := by decide
theorem test_decode_gfxCyan : decodeTableWord 8 0b00010110 = some .gfxCyan := by decide
theorem test_decode_gfxWhite : decodeTableWord 8 0b00010111 = some .gfxWhite := by decide
theorem test_decode_nop18 : decodeTableWord 8 0b00011000 = some .nop18 := by decide
theorem test_decode_contiguousGfx : decodeTableWord 8 0b00011001 = some .contiguousGfx := by decide
theorem test_decode_separatedGfx : decodeTableWord 8 0b00011010 = some .separatedGfx := by decide
theorem test_decode_nop1B : decodeTableWord 8 0b00011011 = some .nop1B := by decide
theorem test_decode_blackBg : decodeTableWord 8 0b00011100 = some .blackBg := by decide
theorem test_decode_newBg : decodeTableWord 8 0b00011101 = some .newBg := by decide
theorem test_decode_holdGfx : decodeTableWord 8 0b00011110 = some .holdGfx := by decide
theorem test_decode_releaseGfx : decodeTableWord 8 0b00011111 = some .releaseGfx := by decide
theorem test_decode_dispG0 :
    decodeTableWord 8 0b00100000 = some (.dispG0 0x20) ∧ decodeTableWord 8 0b00111111 = some (.dispG0 0x3F) := by decide
theorem test_decode_dispT :
    decodeTableWord 8 0b01000000 = some (.dispT 0x40) ∧ decodeTableWord 8 0b01011111 = some (.dispT 0x5F) := by decide
theorem test_decode_dispG1 :
    decodeTableWord 8 0b01100000 = some (.dispG1 0x60) ∧ decodeTableWord 8 0b01111111 = some (.dispG1 0x7F) := by decide
/-- The pairs of section 2.12: bit 7 makes no difference (R78). -/
theorem test_decode_bit7 :
    decodeTableWord 8 0x81 = some .alphaRed ∧ decodeTableWord 8 0x8D = some .doubleHeight ∧
    decodeTableWord 8 0x9E = some .holdGfx ∧ decodeTableWord 8 0xC1 = some (.dispT 0x41) ∧
    decodeTableWord 8 0xFF = some (.dispG1 0x7F) := by decide
theorem test_encode_words :
    encode .newBg = [0x1D] ∧ encode (.dispG0 0x35) = [0x35] ∧ encode (.dispG1 0x66) = [0x66] := by decide

/-! ## Small states -/

/-- The RowState of a next state. -/
def rsOf (o : Host.Outcome State Fault Refusal) : Option RowState :=
  match o with
  | .next t => some t.rs
  | _ => none

/-- A row of pixels of RASTER in a next state: `n` of them from column `X` of row `Y`. -/
def pixelsOf (o : Host.Outcome State Fault Refusal) (X Y n : Nat) : List (Option Colour) :=
  match o with
  | .next t => (List.range n).map fun k => t.rasterAt (X + k) Y
  | _ => []

/-- A frame in progress at a cell. -/
def inFrame (row : Fin 25) (col : Fin 40) (rs : RowState) : State :=
  { State.reset with opstate := .rendering, pageW := 40, pageH := 25, row := row, col := col, rs := rs }

/-- Start state A of section 2.6. -/
def stateA : State := inFrame 3 5 ⟨true, true, true, false, false, true, 3, 4, 0x35⟩

/-- Start state B of section 2.6: a bottom-half row. -/
def stateB : State := { inFrame 4 5 ⟨false, false, false, true, false, false, 5, 0, 0x00⟩ with bottomHalf := true }

/-- RowState at a row start with carry false (10_state.md R23). -/
def plain : RowState := ⟨false, false, false, false, false, false, 7, 0, 0⟩

/-! ## The control codes from the start states A and B (section 2.6) -/

theorem test_nop00 :
    rsOf (exec .nop00 stateA) = some ⟨true, true, true, false, false, true, 3, 4, 0x35⟩ ∧
    rsOf (exec .nop00 stateB) = some ⟨false, false, false, true, false, false, 5, 0, 0x00⟩ := by decide
theorem test_alphaRed :
    rsOf (exec .alphaRed stateA) = some ⟨true, true, false, false, false, true, 1, 4, 0x35⟩ ∧
    rsOf (exec .alphaRed stateB) = some ⟨false, false, false, true, false, false, 1, 0, 0x00⟩ := by decide
theorem test_alphaGreen :
    rsOf (exec .alphaGreen stateA) = some ⟨true, true, false, false, false, true, 2, 4, 0x35⟩ ∧
    rsOf (exec .alphaGreen stateB) = some ⟨false, false, false, true, false, false, 2, 0, 0x00⟩ := by decide
theorem test_alphaYellow :
    rsOf (exec .alphaYellow stateA) = some ⟨true, true, false, false, false, true, 3, 4, 0x35⟩ ∧
    rsOf (exec .alphaYellow stateB) = some ⟨false, false, false, true, false, false, 3, 0, 0x00⟩ := by decide
theorem test_alphaBlue :
    rsOf (exec .alphaBlue stateA) = some ⟨true, true, false, false, false, true, 4, 4, 0x35⟩ ∧
    rsOf (exec .alphaBlue stateB) = some ⟨false, false, false, true, false, false, 4, 0, 0x00⟩ := by decide
theorem test_alphaMagenta :
    rsOf (exec .alphaMagenta stateA) = some ⟨true, true, false, false, false, true, 5, 4, 0x35⟩ ∧
    rsOf (exec .alphaMagenta stateB) = some ⟨false, false, false, true, false, false, 5, 0, 0x00⟩ := by decide
theorem test_alphaCyan :
    rsOf (exec .alphaCyan stateA) = some ⟨true, true, false, false, false, true, 6, 4, 0x35⟩ ∧
    rsOf (exec .alphaCyan stateB) = some ⟨false, false, false, true, false, false, 6, 0, 0x00⟩ := by decide
theorem test_alphaWhite :
    rsOf (exec .alphaWhite stateA) = some ⟨true, true, false, false, false, true, 7, 4, 0x35⟩ ∧
    rsOf (exec .alphaWhite stateB) = some ⟨false, false, false, true, false, false, 7, 0, 0x00⟩ := by decide
theorem test_flashOn :
    rsOf (exec .flashOn stateA) = some ⟨true, true, true, false, false, true, 3, 4, 0x35⟩ ∧
    rsOf (exec .flashOn stateB) = some ⟨false, false, false, true, false, true, 5, 0, 0x00⟩ := by decide
theorem test_flashOff :
    rsOf (exec .flashOff stateA) = some ⟨true, true, true, false, false, false, 3, 4, 0x35⟩ ∧
    rsOf (exec .flashOff stateB) = some ⟨false, false, false, true, false, false, 5, 0, 0x00⟩ := by decide
theorem test_nop0A :
    rsOf (exec .nop0A stateA) = some ⟨true, true, true, false, false, true, 3, 4, 0x35⟩ ∧
    rsOf (exec .nop0A stateB) = some ⟨false, false, false, true, false, false, 5, 0, 0x00⟩ := by decide
theorem test_nop0B :
    rsOf (exec .nop0B stateA) = some ⟨true, true, true, false, false, true, 3, 4, 0x35⟩ ∧
    rsOf (exec .nop0B stateB) = some ⟨false, false, false, true, false, false, 5, 0, 0x00⟩ := by decide
theorem test_normalHeight :
    rsOf (exec .normalHeight stateA) = some ⟨true, true, true, false, false, true, 3, 4, 0x35⟩ ∧
    rsOf (exec .normalHeight stateB) = some ⟨false, false, false, false, false, false, 5, 0, 0x00⟩ := by decide
theorem test_doubleHeight :
    rsOf (exec .doubleHeight stateA) = some ⟨true, true, true, true, true, true, 3, 4, 0x35⟩ ∧
    rsOf (exec .doubleHeight stateB) = some ⟨false, false, false, true, false, false, 5, 0, 0x00⟩ := by decide
theorem test_nop0E :
    rsOf (exec .nop0E stateA) = some ⟨true, true, true, false, false, true, 3, 4, 0x35⟩ ∧
    rsOf (exec .nop0E stateB) = some ⟨false, false, false, true, false, false, 5, 0, 0x00⟩ := by decide
theorem test_nop0F :
    rsOf (exec .nop0F stateA) = some ⟨true, true, true, false, false, true, 3, 4, 0x35⟩ ∧
    rsOf (exec .nop0F stateB) = some ⟨false, false, false, true, false, false, 5, 0, 0x00⟩ := by decide
theorem test_nop10 :
    rsOf (exec .nop10 stateA) = some ⟨true, true, true, false, false, true, 3, 4, 0x35⟩ ∧
    rsOf (exec .nop10 stateB) = some ⟨false, false, false, true, false, false, 5, 0, 0x00⟩ := by decide
theorem test_gfxRed :
    rsOf (exec .gfxRed stateA) = some ⟨true, true, true, false, false, true, 1, 4, 0x35⟩ ∧
    rsOf (exec .gfxRed stateB) = some ⟨false, false, true, true, false, false, 1, 0, 0x00⟩ := by decide
theorem test_gfxGreen :
    rsOf (exec .gfxGreen stateA) = some ⟨true, true, true, false, false, true, 2, 4, 0x35⟩ ∧
    rsOf (exec .gfxGreen stateB) = some ⟨false, false, true, true, false, false, 2, 0, 0x00⟩ := by decide
theorem test_gfxYellow :
    rsOf (exec .gfxYellow stateA) = some ⟨true, true, true, false, false, true, 3, 4, 0x35⟩ ∧
    rsOf (exec .gfxYellow stateB) = some ⟨false, false, true, true, false, false, 3, 0, 0x00⟩ := by decide
theorem test_gfxBlue :
    rsOf (exec .gfxBlue stateA) = some ⟨true, true, true, false, false, true, 4, 4, 0x35⟩ ∧
    rsOf (exec .gfxBlue stateB) = some ⟨false, false, true, true, false, false, 4, 0, 0x00⟩ := by decide
theorem test_gfxMagenta :
    rsOf (exec .gfxMagenta stateA) = some ⟨true, true, true, false, false, true, 5, 4, 0x35⟩ ∧
    rsOf (exec .gfxMagenta stateB) = some ⟨false, false, true, true, false, false, 5, 0, 0x00⟩ := by decide
theorem test_gfxCyan :
    rsOf (exec .gfxCyan stateA) = some ⟨true, true, true, false, false, true, 6, 4, 0x35⟩ ∧
    rsOf (exec .gfxCyan stateB) = some ⟨false, false, true, true, false, false, 6, 0, 0x00⟩ := by decide
theorem test_gfxWhite :
    rsOf (exec .gfxWhite stateA) = some ⟨true, true, true, false, false, true, 7, 4, 0x35⟩ ∧
    rsOf (exec .gfxWhite stateB) = some ⟨false, false, true, true, false, false, 7, 0, 0x00⟩ := by decide
theorem test_nop18 :
    rsOf (exec .nop18 stateA) = some ⟨true, true, true, false, false, true, 3, 4, 0x35⟩ ∧
    rsOf (exec .nop18 stateB) = some ⟨false, false, false, true, false, false, 5, 0, 0x00⟩ := by decide
theorem test_contiguousGfx :
    rsOf (exec .contiguousGfx stateA) = some ⟨false, true, true, false, false, true, 3, 4, 0x35⟩ ∧
    rsOf (exec .contiguousGfx stateB) = some ⟨false, false, false, true, false, false, 5, 0, 0x00⟩ := by decide
theorem test_separatedGfx :
    rsOf (exec .separatedGfx stateA) = some ⟨true, true, true, false, false, true, 3, 4, 0x35⟩ ∧
    rsOf (exec .separatedGfx stateB) = some ⟨true, false, false, true, false, false, 5, 0, 0x00⟩ := by decide
theorem test_nop1B :
    rsOf (exec .nop1B stateA) = some ⟨true, true, true, false, false, true, 3, 4, 0x35⟩ ∧
    rsOf (exec .nop1B stateB) = some ⟨false, false, false, true, false, false, 5, 0, 0x00⟩ := by decide
theorem test_blackBg :
    rsOf (exec .blackBg stateA) = some ⟨true, true, true, false, false, true, 3, 0, 0x35⟩ ∧
    rsOf (exec .blackBg stateB) = some ⟨false, false, false, true, false, false, 5, 0, 0x00⟩ := by decide
theorem test_newBg :
    rsOf (exec .newBg stateA) = some ⟨true, true, true, false, false, true, 3, 3, 0x35⟩ ∧
    rsOf (exec .newBg stateB) = some ⟨false, false, false, true, false, false, 5, 5, 0x00⟩ := by decide
theorem test_holdGfx :
    rsOf (exec .holdGfx stateA) = some ⟨true, true, true, false, false, true, 3, 4, 0x35⟩ ∧
    rsOf (exec .holdGfx stateB) = some ⟨false, true, false, true, false, false, 5, 0, 0x00⟩ := by decide
theorem test_releaseGfx :
    rsOf (exec .releaseGfx stateA) = some ⟨true, false, true, false, false, true, 3, 4, 0x35⟩ ∧
    rsOf (exec .releaseGfx stateB) = some ⟨false, false, false, true, false, false, 5, 0, 0x00⟩ := by decide

/-! ## The display codes: the record of step 5 (section 2.7) -/

theorem test_dispG0_records_in_graphics :
    rsOf (exec (.dispG0 0x20) stateA) = some { stateA.rs with lastGraphicCode := 0x20 } ∧
    rsOf (exec (.dispG0 0x3F) stateB) = some stateB.rs := by decide
theorem test_dispT_never_records :
    rsOf (exec (.dispT 0x41) stateA) = some stateA.rs ∧ rsOf (exec (.dispT 0x41) stateB) = some stateB.rs := by decide
theorem test_dispG1_records_in_graphics :
    rsOf (exec (.dispG1 0x66) stateA) = some { stateA.rs with lastGraphicCode := 0x66 } ∧
    rsOf (exec (.dispG1 0x66) stateB) = some stateB.rs := by decide

/-! ## Pixels -/

/-- `GFX_RED 0x66` at row 1 (program P2): the mosaic of 0x66, rows 0 and 6 of cell 1. -/
theorem test_mosaic_pixels :
    pixelsOf (exec (.dispG1 0x66) (inFrame 1 1 { plain with graphicsOn := true, foreground := 1 })) 12 18 12 =
      [some 0, some 0, some 0, some 0, some 0, some 0, some 1, some 1, some 1, some 1, some 1, some 1] ∧
    pixelsOf (exec (.dispG1 0x66) (inFrame 1 1 { plain with graphicsOn := true, foreground := 1 })) 12 24 12 =
      [some 1, some 1, some 1, some 1, some 1, some 1, some 0, some 0, some 0, some 0, some 0, some 0] := by decide

/-- A held mosaic in the new colour: column 3 of program P2 (`GFX_GREEN` while holding 0x66), row 12 of the cell. -/
theorem test_held_mosaic_pixels :
    pixelsOf (exec .gfxGreen (inFrame 1 3
      { plain with holdGraphics := true, graphicsOn := true, foreground := 1, lastGraphicCode := 0x66 })) 36 30 12 =
      [some 0, some 0, some 0, some 0, some 0, some 0, some 2, some 2, some 2, some 2, some 2, some 2] := by decide

/-- Row 0 of `Literal(0x41)` under the test font TF (sections 2.1 and P1, cell 1). -/
theorem test_literal_pixels :
    pixelsOf (exec (.dispT 0x41) { inFrame 0 1 { plain with foreground := 1 } with
      font := [(1188, 0xC7), (1189, 0x41)] }) 12 0 12 =
      [some 0, some 1, some 1, some 1, some 0, some 0, some 0, some 1, some 1, some 1, some 0, some 0] := by decide

/-- The Lower half of `Literal(0x44)` in a bottom-half row: raster rows 0 and 2 of cell (3, 0) of program P3. -/
theorem test_lower_half_pixels :
    pixelsOf (exec (.dispT 0x44) { inFrame 3 0 { plain with doubleHeight := true } with
      bottomHalf := true, font := [(1314, 0x51), (1315, 0x4D), (1316, 0x5E), (1317, 0x4E)] }) 0 54 12 =
      [some 0, some 7, some 0, some 7, some 0, some 7, some 0, some 0, some 0, some 7, some 0, some 0] ∧
    pixelsOf (exec (.dispT 0x44) { inFrame 3 0 { plain with doubleHeight := true } with
      bottomHalf := true, font := [(1314, 0x51), (1315, 0x4D), (1316, 0x5E), (1317, 0x4E)] }) 0 56 12 =
      [some 7, some 0, some 0, some 7, some 0, some 7, some 7, some 7, some 7, some 0, some 0, some 0] := by decide

/-- A suppressed cell is all background: program P3, cell (3, 2). -/
theorem test_suppressed_pixels :
    pixelsOf (exec (.dispT 0x45) { inFrame 3 2 plain with bottomHalf := true, font := [(1332, 0xFF)] }) 24 54 12 =
      List.replicate 12 (some 0) := by decide

/-- Icon 8 of the test icons over a blank white-on-black cell, rows 0 and 8 (program P4, cell 0). -/
theorem test_icon_pixels :
    pixelsOf (exec .flashOn { inFrame 6 0 plain with
      showCtrl := true, icon := storeLoad false 1728 ((List.range 12).map fun px => px != 8) }) 0 108 12 =
      [some 0, some 0, some 0, some 0, some 0, some 0, some 0, some 0, some 7, some 0, some 0, some 0] ∧
    pixelsOf (exec .flashOn { inFrame 6 0 plain with showCtrl := true }) 0 116 12 = List.replicate 12 (some 7) := by
  decide

/-- Icon 29 over a cell whose two colours are equal: black where unset (program P4, cell 5, row 0). -/
theorem test_icon_on_equal_colours :
    pixelsOf (exec .newBg { inFrame 6 5 { plain with foreground := 3 } with
      showCtrl := true, icon := storeLoad false 6264 ((List.range 12).map fun px => px != 5) }) 60 108 12 =
      [some 3, some 3, some 3, some 3, some 3, some 0, some 3, some 3, some 3, some 3, some 3, some 3] := by decide

/-- The table of section 2.8. -/
theorem test_overlay_table :
    overlayPixel 3 4 true 3 = 3 ∧ overlayPixel 3 4 true 4 = 4 ∧ overlayPixel 3 4 false 3 = 4 ∧
    overlayPixel 3 4 false 4 = 3 ∧ overlayPixel 3 3 false 3 = 0 ∧ overlayPixel 0 0 false 0 = 0 ∧
    overlayPixel 7 0 false 7 = 0 ∧ overlayPixel 7 0 false 0 = 7 := by decide

/-! ## Glyphs -/

/-- Section 2.1. -/
theorem test_font_rows :
    (List.range 12).map (fontRow 0xA5 0x02) =
      [true, false, true, false, true, false, false, true, false, true, false, false] ∧
    (List.range 12).map (fontRow 0xFF 0x03) =
      [true, true, true, true, true, true, true, true, true, true, false, false] ∧
    (List.range 12).map (fontRow 0x00 0xFC) = List.replicate 12 false ∧
    (List.range 12).map (fontRow 0x3C 0xFF) =
      [true, true, false, false, true, true, true, true, false, false, false, false] := by decide

/-- Font addresses of section 2.1. -/
theorem test_font_addresses :
    fontAddr 0x20 0 = 0 ∧ fontAddr 0x41 0 = 1188 ∧ fontAddr 0x41 17 = 1222 ∧ fontAddr 0x7F 17 + 1 = 3455 := by decide

/-- Section 2.2. -/
theorem test_glyph_indices :
    glyphIndex 0x00 .normal .standard = 0 ∧ glyphIndex 0x00 .thinGraphics .lower = 8 ∧
    glyphIndex 0x01 .normal .standard = 9 ∧ glyphIndex 0x20 .normal .standard = 288 ∧
    glyphIndex 0x41 .graphics .upper = 589 ∧ glyphIndex 0x66 .graphics .standard = 921 ∧
    glyphIndex 0x7F .thinGraphics .lower = 1151 := by decide

/-- `Glyph(0x66, ThinGraphics, Standard)` with the default separators, rows 0, 6 and 7 (section 2.4). -/
theorem test_thin_rows :
    (List.range 12).map (glyph Config.defaultSeparators [] 0x66 .thinGraphics .standard 0) =
      [false, false, false, false, false, false, false, true, true, true, true, true] ∧
    (List.range 12).map (glyph Config.defaultSeparators [] 0x66 .thinGraphics .standard 6) = List.replicate 12 false ∧
    (List.range 12).map (glyph Config.defaultSeparators [] 0x66 .thinGraphics .standard 7) =
      [true, true, true, true, true, true, false, false, false, false, false, false] := by decide

/-- Upper and Lower of `Thin(0x7F)`: Standard row 6 is Upper rows 12 and 13, row 12 is Lower rows 6 and 7 (section 2.5). -/
theorem test_thin_half_rows :
    (List.range 18).map (fun py => glyph Config.defaultSeparators [] 0x7F .thinGraphics .upper py 0) =
      (List.range 18).map (fun py => py != 12 && py != 13) ∧
    (List.range 18).map (fun py => glyph Config.defaultSeparators [] 0x7F .thinGraphics .lower py 0) =
      (List.range 18).map (fun py => py != 6 && py != 7) := by decide

/-! ## Sixels (section 2.3) -/

theorem test_sixel_addresses :
    sixelAddr 1 2 = (0, 6) ∧ sixelAddr 2 0 = (1, 0) ∧ sixelAddr 0 3 = (40, 0) ∧ sixelAddr 3 5 = (41, 6) ∧
    sixelAddr 78 72 = (999, 0) ∧ sixelAddr 79 74 = (999, 6) := by decide
theorem test_sixel_get :
    [(0, 0), (1, 0), (0, 1), (1, 1), (0, 2), (1, 2)].map (fun p => sixelGet [(0, 0x3F)] p.1 p.2) =
      [true, true, true, true, true, false] ∧
    [(0, 0), (1, 0), (0, 1), (1, 1), (0, 2), (1, 2)].map (fun p => sixelGet [(0, 0x41)] p.1 p.2) =
      [true, false, false, false, false, true] ∧
    sixelGet [(0, 0xC0)] 1 2 = true ∧ sixelGet [(0, 0x20)] 1 2 = false := by decide
theorem test_sixel_set :
    sixelSet [(0, 0x20)] 1 2 .on = [(0, 0x60)] ∧ sixelSet [(0, 0x7F)] 0 1 .off = [(0, 0x7B)] ∧
    sixelSet [(0, 0x7F)] 1 2 .off = [(0, 0x3F)] ∧ sixelSet [(0, 0xA0)] 1 0 .toggle = [(0, 0xA2)] ∧
    sixelSet [] 0 2 .on = [(0, 0x10)] ∧ sixelSet [(0, 0x41)] 1 2 .off = [(0, 0x01)] := by decide
/-- Writing the value of an unlisted byte unlists it: the form stays canonical. -/
theorem test_sixel_set_removes : sixelSet [(0, 0x10), (1, 0x20)] 0 2 .off = [(1, 0x20)] := by decide
theorem test_mosaic_bytes :
    mosaicByte true false false false false false = 0x60 ∧ mosaicByte true false false true true false = 0x66 ∧
    mosaicByte false true true true true true = 0x3F := by decide

/-! ## The host -/

/-- A built block without content. -/
def ready : State := { State.reset with opstate := .ready }

/-- A frame just accepted. -/
def frameStart : State := startFrame 40 25 false true ready

/-- Whole assets. -/
def wholeFont : List Byte := List.replicate 3456 0x00
def wholeIcons : List (List (List Bool)) := List.replicate 32 (List.replicate 18 (List.replicate 12 true))

/-- Section 2.10. -/
theorem test_geometry :
    glyphCellPixelSize = (12, 18) ∧ characterCellPixelBounds 2 3 = (12, 18, 12, 18) ∧
    characterCellPixelBounds 79 74 = (468, 432, 12, 18) ∧ sixelPixelBounds 3 5 = (18, 30, 6, 6) ∧
    sixelPixelBounds 79 74 = (474, 444, 6, 6) := by decide
theorem test_geometry_out_of_range : (hostCellBounds 80 0 ready).reply = some .refused ∧
    (hostSixelBounds 0 75 ready).reply = some .refused := by decide
/-- Section 2.11: a RENDER of the wrong size. -/
theorem test_render_wrong_size :
    (hostRender 39 25 true true ready).err = .invalidInput ∧ (hostRender 39 25 true true ready).opstate = .ready ∧
    (hostRender 25 40 true true ready).err = .invalidInput := by decide
/-- Section 2.11: a font or icon set of the wrong size. -/
theorem test_build_bad_assets :
    (hostBuild none (some wholeIcons) State.reset).opstate = .failed ∧
    (hostBuild (some []) (some wholeIcons) State.reset).err = .assetLoadError := by decide
/-- Section 2.11: RENDER before BUILD is refused. -/
theorem test_render_unbuilt : hostRender 40 25 true true State.reset = refuse State.reset := by decide
/-- A step of the machine on a request, and on a fetched byte. -/
theorem test_step_takes_request :
    step { ready with requests := [.render 40 25 false true, .glyphCellPixelSize] } =
      .next { frameStart with requests := [.glyphCellPixelSize] } := rfl
theorem test_step_runs_byte :
    rsOf (step { frameStart with page := [(0, 0x9E)] }) = some { plain with holdGraphics := true } := by decide
theorem test_row_start_latches_carry :
    rsOf (step { inFrame 2 0 stateA.rs with carry := true, page := [(80, 0x0D)] }) =
      some { plain with doubleHeight := true } := by decide
theorem test_fetch_word :
    step (State.reset.withFetchWord 8 0x0D) = exec .doubleHeight (State.reset.withFetchWord 8 0x0D) := rfl

/-! ## Witnesses: for each statement with hypotheses, states and operands that meet them together -/

theorem witness_EncodedInstructionDecodes : (Instr.dispG1 0x7F).wf = true ∧ Instr.releaseGfx.wf = true := by decide

/-- Both clauses: a cell inside a row and the first cell of one. -/
theorem witness_CellStepRunsDecodedInstruction :
    ((inFrame 0 39 plain).opstate = .rendering ∧ Instr.nop00.wf = true ∧
      decode [memRead (inFrame 0 39 plain).page 39] = .ok (.nop00, []) ∧ (inFrame 0 39 plain).col.val ≠ 0) ∧
    ((inFrame 24 0 plain).opstate = .rendering ∧ decode [memRead (inFrame 24 0 plain).page 960] = .ok (.nop00, []) ∧
      (inFrame 24 0 plain).col.val = 0) := ⟨⟨rfl, rfl, rfl, by decide⟩, rfl, rfl, rfl⟩

theorem witness_RowStateNeverLeaks :
    (inFrame 7 0 plain).opstate = .rendering ∧ (inFrame 7 0 plain).col.val = 0 ∧ plain ≠ stateA.rs ∧
    SameButRowState (inFrame 7 0 plain) (inFrame 7 0 stateA.rs) := ⟨rfl, rfl, by decide, rfl⟩

theorem witness_CellStepNeverStops : stateA.opstate = .rendering := rfl

/-- The three clauses at their boundaries: the last cell but one of a row, of row 23, and of the frame. -/
theorem witness_EveryCodeAdvancesTheScan :
    (inFrame 24 38 plain).col.val < 39 ∧
    ((inFrame 23 39 plain).col.val = 39 ∧ (inFrame 23 39 plain).row.val < 24) ∧
    ((inFrame 24 39 plain).col.val = 39 ∧ (inFrame 24 39 plain).row.val = 24) := by decide

theorem witness_DispG0DrawsAndRecords :
    (32 ≤ (0x20 : Code).toNat ∧ (0x20 : Code).toNat ≤ 63) ∧ (32 ≤ (0x3F : Code).toNat ∧ (0x3F : Code).toNat ≤ 63) := by
  decide
theorem witness_DispTDrawsAndKeepsRecord :
    (64 ≤ (0x40 : Code).toNat ∧ (0x40 : Code).toNat ≤ 95) ∧ (64 ≤ (0x5F : Code).toNat ∧ (0x5F : Code).toNat ≤ 95) := by
  decide
theorem witness_DispG1DrawsAndRecords : 96 ≤ (0x60 : Code).toNat ∧ 96 ≤ (0x7F : Code).toNat := by decide

/-- `NORMAL_HEIGHT` in a bottom-half row. -/
theorem witness_SuppressedCellIsBackground :
    ∃ t, stateB.bottomHalf = true ∧ stateB.showCtrl = false ∧ exec .normalHeight stateB = .next t ∧
      t.rs.doubleHeight = false := ⟨_, rfl, rfl, rfl, rfl⟩

theorem witness_MosaicFillsSubCells : (0x20 : Code).getLsbD 5 = true ∧ 1 < 2 ∧ 2 < 3 ∧ 5 < 6 := by decide

/-- Both clauses. -/
theorem witness_ThinAndTextGlyphs : (0x7F : Code).getLsbD 5 = true ∧ (0x5F : Code).getLsbD 5 = false := by decide

theorem witness_HeightSlotsSampleTheirHalves : 8 < 9 ∧ 11 < 12 ∧ 1 < 2 := by decide

/-- A font whose space is blank, and one whose space is not. -/
theorem witness_BlankGlyphs : FontSpaceBlank [] ∧ ¬ FontSpaceBlank [(35, 0x02)] := by
  unfold FontSpaceBlank
  decide

theorem witness_GlyphEntriesAreNumbered :
    glyphIndex 0x7F .thinGraphics .lower = glyphIndex 0x7F .thinGraphics .lower := rfl

theorem witness_SixelAddressesAreDistinct :
    79 ≤ 79 ∧ 74 ≤ 74 ∧ 0 ≤ 79 ∧ 0 ≤ 74 ∧ sixelAddr 79 74 = sixelAddr 79 74 := by decide

theorem witness_SixelGetAfterSet : 79 ≤ 79 ∧ 74 ≤ 74 ∧ 0 ≤ 79 ∧ 0 ≤ 74 ∧ ¬ (0 = 79 ∧ 0 = 74) := by decide

/-- Both clauses, at the last cell and its highest sixel bit. -/
theorem witness_SixelSetChangesOneBit :
    998 ≠ 40 * (74 / 3) + 79 / 2 ∧ 7 ≠ sixelBit (79 % 2 + 2 * (74 % 3)) ∧ 5 ≠ sixelBit (79 % 2 + 2 * (74 % 3)) := by
  decide

theorem witness_SixelPortsAnswer : State.reset.opstate ≠ .rendering ∧ 79 ≤ 79 ∧ 74 ≤ 74 := by decide

/-- A cell holding 0x60 in graphics mode. -/
def mosaicCell : State :=
  { inFrame 24 39 { plain with graphicsOn := true } with page := [(999, 0x60)] }
theorem witness_MosaicAgreesWithSixelGet :
    (memRead mosaicCell.page 999).getLsbD 5 = true ∧ decodeByte (memRead mosaicCell.page 999) = .ok (.dispG1 0x60) ∧
    mosaicCell.rs.graphicsOn = true ∧ mosaicCell.rs.separatedGraphics = false ∧ mosaicCell.rs.doubleHeight = false ∧
    mosaicCell.bottomHalf = false ∧ (mosaicCell.rs.flash = false ∨ mosaicCell.flashVisible = true) ∧
    mosaicCell.rs.foreground ≠ mosaicCell.rs.background ∧ 79 / 2 = mosaicCell.col.val ∧ 74 / 3 = mosaicCell.row.val ∧
    5 < 6 := ⟨rfl, rfl, rfl, rfl, rfl, rfl, .inl rfl, by decide, rfl, rfl, by decide⟩

/-- A row with a code 13 and no carry into it. -/
theorem witness_CarryOfARow :
    let s := { inFrame 24 0 plain with page := [(999, 0x8D)] }
    s.opstate = .rendering ∧ s.col.val = 0 ∧ s.carry = false ∧ (pageByte s s.row.val 39).setWidth 7 = 0x0D#7 :=
  ⟨rfl, rfl, rfl, rfl⟩

/-- Two frames that differ in RowState and in another row of PAGE. -/
theorem witness_RowDependsOnItsOwnBytes :
    let s := { inFrame 7 0 plain with page := [(279, 0x41)] }
    let s' := inFrame 7 0 stateA.rs
    s ≠ s' ∧ s.opstate = .rendering ∧ s'.opstate = .rendering ∧ s.col.val = 0 ∧ s'.col.val = 0 ∧ s'.row = s.row ∧
    s'.carry = s.carry ∧ s'.showCtrl = s.showCtrl ∧ s'.flashVisible = s.flashVisible ∧
    (∀ c < 40, pageByte s' s.row.val c = pageByte s s.row.val c) ∧
    (∀ a < 3456, memRead s'.font a = memRead s.font a) ∧ ∀ a < 6912, bitRead s'.icon a = bitRead s.icon a :=
  ⟨by decide, rfl, rfl, rfl, rfl, rfl, rfl, rfl, rfl, by decide, fun _ _ => rfl, fun _ _ => rfl⟩

theorem witness_FrameTakesThousandSteps :
    frameStart.opstate = .rendering ∧ frameStart.row.val = 0 ∧ frameStart.col.val = 0 ∧ 999 < 1000 := by decide
theorem witness_FrameWritesEveryPixel :
    frameStart.opstate = .rendering ∧ frameStart.row.val = 0 ∧ frameStart.col.val = 0 ∧ 479 < 480 ∧ 449 < 450 := by
  decide

/-- Two built blocks with the same memories and different leftovers. -/
theorem witness_RasterIsAFunctionOfItsInputs :
    let s' := { ready with rs := stateA.rs, carry := true, bottomHalf := true, err := .invalidInput }
    ready ≠ s' ∧ ready.opstate = .ready ∧ s'.opstate = .ready ∧
    (∀ a < 1000, memRead s'.page a = memRead ready.page a) ∧ (∀ a < 3456, memRead s'.font a = memRead ready.font a) ∧
    ∀ a < 6912, bitRead s'.icon a = bitRead ready.icon a :=
  ⟨by decide, rfl, rfl, fun _ _ => rfl, fun _ _ => rfl, fun _ _ => rfl⟩

theorem witness_AllSpacePageIsBlack :
    let s := { ready with page := memLoad (List.replicate 1000 0x20) }
    s.opstate = .ready ∧ FontSpaceBlank s.font ∧ ∀ a < 1000, memRead s.page a = 0x20 ∨ memRead s.page a = 0xA0 := by
  refine ⟨rfl, witness_BlankGlyphs.1, fun a ha => .inl ?_⟩
  show memRead (memLoad (List.replicate 1000 0x20)) a = 0x20
  rw [memRead_memLoad, List.getD, List.getElem?_replicate, if_pos ha]
  rfl

/-- The invariant holds of a frame just accepted, and that state has a next one. -/
theorem witness_InvariantKeptByEveryStep : frameStart.Inv ∧ ∃ t, step frameStart = .next t := by
  refine ⟨?_, _, rfl⟩
  constructor
  iterate 4 exact ⟨List.Pairwise.nil, fun _ he => nomatch he⟩
  · exact .inl rfl
  · decide
  · exact fun _ => rfl
  · exact rfl
  · exact fun _ => ⟨rfl, rfl⟩
  · exact fun _ => ⟨rfl, rfl⟩
  · exact rfl

/-- Both clauses: no request, and one. -/
theorem witness_HostMovesBetweenFrames :
    (ready.opstate ≠ .rendering ∧ ready.requests = []) ∧
    (State.reset.opstate ≠ .rendering ∧
      { State.reset with requests := [.build none none] }.requests = .build none none :: []) := by decide

theorem witness_RenderStartsAFrame : ready.opstate = .ready := rfl

/-- One dimension off by one, and both. -/
theorem witness_WrongDimensionsRaiseInvalidInput :
    ready.opstate = .ready ∧ ¬ (39 = 40 ∧ 25 = 25) ∧ ¬ (40 = 40 ∧ 26 = 25) ∧ ¬ (25 = 40 ∧ 40 = 25) := by decide

/-- Each of the four clauses at its boundary. -/
theorem witness_WrongRequestsAreRefused :
    frameStart.opstate = .rendering ∧ State.reset.opstate ≠ .ready ∧ ready.opstate ≠ .unbuilt ∧
    ¬ (80 ≤ 79 ∧ 74 ≤ 74) ∧ ¬ (79 ≤ 79 ∧ 75 ≤ 74) := by decide

theorem witness_BuildLoadsTheAssets :
    State.reset.opstate = .unbuilt ∧ wholeFont.length = 3456 ∧ wholeIcons.length = 32 ∧
    (∀ k ∈ wholeIcons, k.length = 18 ∧ ∀ r ∈ k, r.length = 12) ∧ 32 ≤ (0x7F : Code).toNat ∧ 17 < 18 ∧
    (0x1F : Code).toNat < 32 ∧ 11 < 12 := by
  refine ⟨rfl, List.length_replicate, List.length_replicate, fun k hk => ?_, by decide⟩
  rw [List.eq_of_mem_replicate hk]
  exact ⟨List.length_replicate, fun r hr => by rw [List.eq_of_mem_replicate hr]; exact List.length_replicate⟩

/-- No font; one byte too many; one icon too few. -/
theorem witness_BadAssetsFailTheBlock :
    State.reset.opstate = .unbuilt ∧
    ∀ p ∈ [(none, some wholeIcons), (some (List.replicate 3457 0x00), some wholeIcons),
        (some wholeFont, some (wholeIcons.take 31))],
      ¬ ∃ (f : List Byte) (ks : List (List (List Bool))), p.1 = some f ∧ p.2 = some ks ∧ f.length = 3456 ∧
        ks.length = 32 ∧ ∀ k ∈ ks, k.length = 18 ∧ ∀ r ∈ k, r.length = 12 := by
  refine ⟨rfl, fun p hp => ?_⟩
  rintro ⟨f, ks, h1, h2, h3, h4, -⟩
  simp only [List.mem_cons, List.not_mem_nil, or_false] at hp
  rcases hp with rfl | rfl | rfl
  · cases h1
  · rw [← Option.some.inj h1, List.length_replicate] at h3
    omega
  · cases h2
    simp [wholeIcons] at h4

theorem witness_FailedIsForEver :
    ∃ t, { State.reset with opstate := .failed, err := .assetLoadError, requests := [.render 40 25 true true] }.opstate =
        .failed ∧
      step { State.reset with
        opstate := .failed, err := .assetLoadError, requests := [.render 40 25 true true] } = .next t :=
  ⟨_, rfl, rfl⟩

theorem witness_RomsAreImmutable : ∃ t, frameStart.opstate ≠ .unbuilt ∧ step frameStart = .next t :=
  ⟨_, by decide, rfl⟩

theorem witness_DecoderWritesOnlyItsCell :
    ∃ t, (inFrame 24 39 plain).opstate = .rendering ∧ step (inFrame 24 39 plain) = .next t ∧
      ¬ (12 * 39 ≤ 467 ∧ 467 < 12 * 39 + 12 ∧ 18 * 24 ≤ 449 ∧ 449 < 18 * 24 + 18) ∧ 17 < 18 ∧ 11 < 12 :=
  ⟨_, rfl, rfl, by decide⟩

theorem witness_GeometryQueriesAnswer : State.reset.opstate ≠ .rendering ∧ 79 ≤ 79 ∧ 74 ≤ 74 := by decide

/-- Both clauses where they meet: the last byte, and one past it. -/
theorem witness_HostPageWriteStoresBytes :
    ready.opstate ≠ .rendering ∧ 999 + [(0x41 : Byte)].length ≤ 1000 ∧ 1000 < 999 + [(0x41 : Byte), 0x42].length := by
  decide

theorem witness_CanonicalMemoriesAreEqual :
    Memory.wf 1000 [(0, 0x41), (999, 0x80)] ∧ Memory.wf 1000 [(0, 0x41), (999, 0x80)] ∧
    ∀ a < 1000, memRead [(0, 0x41), (999, 0x80)] a = memRead [(0, 0x41), (999, 0x80)] a :=
  ⟨by decide, by decide, fun _ _ => rfl⟩

end Sys2Proof.Tests
end

/-! The state of the machine (10_state.md): what a code, a request, a step and a whole frame leave of it, and the invariant
that every step keeps. -/

namespace Sys2Proof

/-! ## Every byte decodes (30_encoding.md R71, R75, R77) -/

/-- The class of a byte picks its row: one of the display rows, or the control row of its own code. -/
theorem rowMatches_exists (b : Byte) : ∃ r ∈ opcodeRows, rowMatches b r = true := by
  have hclass : b &&& 0x60 = 0x20 ∨ b &&& 0x60 = 0x40 ∨ b &&& 0x60 = 0x60 ∨ (b &&& 0x7F).toNat < 32 := by
    revert b; decide
  have hrow : ∀ n < 32, ∃ r ∈ opcodeRows, r.mask = 0x7F ∧ r.pattern = BitVec.ofNat 8 n := by decide
  rcases hclass with h | h | h | h
  · exact ⟨⟨0x20, 0x60, .dispG0⟩, by simp [opcodeRows, opcodeRowsDisplay], beq_iff_eq.2 h⟩
  · exact ⟨⟨0x40, 0x60, .dispT⟩, by simp [opcodeRows, opcodeRowsDisplay], beq_iff_eq.2 h⟩
  · exact ⟨⟨0x60, 0x60, .dispG1⟩, by simp [opcodeRows, opcodeRowsDisplay], beq_iff_eq.2 h⟩
  · obtain ⟨r, hr, hmask, hpat⟩ := hrow _ h
    exact ⟨r, hr, by simp [rowMatches, hmask, hpat]⟩

theorem decodeByte_total (b : Byte) : ∃ i, decodeByte b = .ok i := by
  have hfind : (opcodeRows.find? (rowMatches b)).isSome := List.find?_isSome.2 (rowMatches_exists b)
  obtain ⟨r, hr⟩ := Option.isSome_iff_exists.1 hfind
  exact ⟨r.instr (codeOf b), by simp [decodeByte, hr]⟩

theorem decode_cons_of_decodeByte {b : Byte} {i : Instr} (h : decodeByte b = .ok i) (rest : List Byte) :
    decode (b :: rest) = .ok (i, rest) := by
  simp [decode, h]

end Sys2Proof

namespace Sys2Proof.Machine

/-! ## The row start (10_state.md R23, R34) -/

/-- The state that enters a row does not show which RowState and latch came before. -/
theorem rowEntry_forgets_rowState {s t : State} (hc : s.col.val = 0) (h : SameButRowState s t) :
    rowEntry s = rowEntry t := by
  have hs : s.col = 0 := Fin.ext hc
  have ht : t.col = 0 := (congrArg State.col h).symm.trans hs
  rw [rowEntry_of_col_zero hs, rowEntry_of_col_zero ht]
  calc rowStart s = rowStart { s with rs := t.rs, bottomHalf := t.bottomHalf } := rfl
    _ = rowStart t := congrArg rowStart h

/-! ## What a code does to the state, in one equation -/

/-- Every instruction writes RowState, draws one whole image into its cell and advances; nothing else. -/
theorem exec_eq_advance (i : Instr) (s : State) :
    ∃ (rs : RowState) (img : CellImage), imageWf img ∧ exec i s = .next (advance (drawCell img { s with rs := rs })) := by
  obtain ⟨code, actual, effect, -, h⟩ := exec_finishes i
  exact ⟨_, _, cellImage_length _ _ _, h s⟩

/-- No code writes what R24 and R29 keep from the codes. -/
theorem exec_untouched {i : Instr} {s t : State} (h : exec i s = .next t) : UntouchedByCodes s t := by
  obtain ⟨rs, img, -, he⟩ := exec_eq_advance i s
  cases he.symm.trans h
  simp [UntouchedByCodes]

/-- A code lists one whole image at its cell. -/
theorem exec_raster {i : Instr} {s t : State} (h : exec i s = .next t) :
    ∃ img, imageWf img ∧ t.raster = storePut s.raster s.scan img := by
  obtain ⟨rs, img, himg, he⟩ := exec_eq_advance i s
  cases he.symm.trans h
  exact ⟨img, himg, by simp [State.scan]⟩

/-! ## The linear scan position (10_state.md R25 to R27) -/

theorem scan_lt (s : State) : s.scan < 1000 := by
  rw [scan_eq]
  omega

@[simp] theorem rowEntry_scan (s : State) : (rowEntry s).scan = s.scan := by simp [State.scan]

/-- In linear form the scan goes on by one, and from position 999 the frame is ready. -/
theorem advance_scan (s : State) :
    (s.scan < 999 ∧ (advance s).scan = s.scan + 1 ∧ (advance s).opstate = s.opstate) ∨
    (s.scan = 999 ∧ (advance s).opstate = .ready) := by
  simp only [scan_eq]
  rcases advance_cases s with ⟨hc, h⟩ | ⟨hc, hr, h⟩ | ⟨hc, hr, h⟩
  · exact .inl ⟨by omega, by simp [h]; omega, by rw [h]⟩
  · exact .inl ⟨by omega, by simp [h]; omega, by rw [h]⟩
  · exact .inr ⟨by omega, by rw [h]⟩

theorem exec_scan {i : Instr} {s t : State} (h : exec i s = .next t) :
    (s.scan < 999 ∧ t.scan = s.scan + 1 ∧ t.opstate = s.opstate) ∨ (s.scan = 999 ∧ t.opstate = .ready) := by
  obtain ⟨rs, img, -, he⟩ := exec_eq_advance i s
  cases he.symm.trans h
  exact advance_scan (drawCell img { s with rs := rs })

/-! ## The two kinds of step -/

theorem step_of_rendering {s : State} (h : s.opstate = .rendering) : step s = cellStep s := if_pos h

theorem step_of_not_rendering {s : State} (h : s.opstate ≠ .rendering) : step s = hostMove s := if_neg h

/-- A cell step runs the instruction that the fetched byte decodes to. -/
theorem cellStep_of_decodeByte {s : State} {i : Instr} (h : decodeByte (fetchByte s) = .ok i) :
    cellStep s = exec i (rowEntry s) := by
  simp [cellStep, decode_cons_of_decodeByte h]

theorem cellStep_eq_exec (s : State) : ∃ i, decodeByte (fetchByte s) = .ok i ∧ cellStep s = exec i (rowEntry s) := by
  obtain ⟨i, hi⟩ := decodeByte_total (fetchByte s)
  exact ⟨i, hi, cellStep_of_decodeByte hi⟩

theorem cellStep_completes (s : State) : Completes (cellStep s) := by
  obtain ⟨i, -, h⟩ := cellStep_eq_exec s
  obtain ⟨rs, img, -, he⟩ := exec_eq_advance i (rowEntry s)
  exact ⟨_, h.trans he⟩

/-- Everything a step can be: a code run by a cell step, an idle step, or the oldest request answered. -/
theorem step_cases {s t : State} (h : step s = .next t) :
    (s.opstate = .rendering ∧ ∃ i, decodeByte (fetchByte s) = .ok i ∧ exec i (rowEntry s) = .next t) ∨
    (s.opstate ≠ .rendering ∧ s.requests = [] ∧ t = s) ∨
    (s.opstate ≠ .rendering ∧ ∃ r rest, s.requests = r :: rest ∧
      hostRequest r { s with requests := rest } = .next t) := by
  by_cases ho : s.opstate = .rendering
  · obtain ⟨i, hi, he⟩ := cellStep_eq_exec s
    exact .inl ⟨ho, i, hi, by rw [← he, ← step_of_rendering ho, h]⟩
  · rw [step_of_not_rendering ho, hostMove] at h
    split at h
    · next hr => cases h; exact .inr (.inl ⟨ho, hr, rfl⟩)
    · next r rest hr => exact .inr (.inr ⟨ho, r, rest, hr, h⟩)

/-! ## Runs -/

theorem runsTo_zero (s : State) : RunsTo 0 s s := rfl

theorem run_succ_of_step {s t : State} (k : Nat) (h : step s = .next t) :
    Host.Core.run Sys2Proof.core (k + 1) s = Host.Core.run Sys2Proof.core k t := by
  have hcore : Sys2Proof.core.step s = .next t := h
  simp [Host.Core.run, hcore]

/-- The first `k + 1` steps depend on the first step alone. -/
theorem run_succ_congr {s t : State} (k : Nat) (h : step s = step t) :
    Host.Core.run Sys2Proof.core (k + 1) s = Host.Core.run Sys2Proof.core (k + 1) t := by
  have hcore : Sys2Proof.core.step s = Sys2Proof.core.step t := h
  simp [Host.Core.run, hcore]

theorem runsTo_cons {k : Nat} {s t u : State} (h : step s = .next t) (hr : RunsTo k t u) : RunsTo (k + 1) s u :=
  (run_succ_of_step k h).trans hr

theorem runsTo_one {s t : State} (h : step s = .next t) : RunsTo 1 s t := runsTo_cons h (runsTo_zero t)

theorem runsTo_trans {j k : Nat} {s t u : State} (h : RunsTo j s t) (hr : RunsTo k t u) : RunsTo (j + k) s u := by
  induction j generalizing s with
  | zero =>
    cases h
    rwa [Nat.zero_add]
  | succ j ih =>
    cases hs : step s with
    | next v =>
      rw [Nat.succ_add]
      exact runsTo_cons hs (ih ((run_succ_of_step j hs).symm.trans h))
    | fault r =>
      have hcore : Sys2Proof.core.step s = .fault r := hs
      simp [RunsTo, Host.Core.run, hcore] at h
    | refused r =>
      have hcore : Sys2Proof.core.step s = .refused r := hs
      simp [RunsTo, Host.Core.run, hcore] at h

/-- One cell step of a frame: it completes, at the next position or with the frame done. -/
theorem step_scan {s : State} (ho : s.opstate = .rendering) :
    ∃ t, step s = .next t ∧
      ((s.scan < 999 ∧ t.scan = s.scan + 1 ∧ t.opstate = .rendering) ∨ (s.scan = 999 ∧ t.opstate = .ready)) := by
  obtain ⟨i, -, he⟩ := cellStep_eq_exec s
  obtain ⟨t, ht⟩ := cellStep_completes s
  have hscan := exec_scan (he.symm.trans ht)
  rw [rowEntry_scan, rowEntry_opstate, ho] at hscan
  exact ⟨t, (step_of_rendering ho).trans ht, hscan⟩

section Frame

variable {I : State → Prop} {s : State}

/-- What every cell step of a frame keeps holds at each position that the frame has still to come to. -/
theorem frame_reaches (hI : ∀ t u, t.opstate = .rendering → I t → step t = .next u → I u)
    (ho : s.opstate = .rendering) (h0 : I s) (k : Nat) (hk : s.scan + k < 1000) :
    ∃ t, RunsTo k s t ∧ t.opstate = .rendering ∧ t.scan = s.scan + k ∧ I t := by
  induction k with
  | zero => exact ⟨s, runsTo_zero s, ho, rfl, h0⟩
  | succ k ih =>
    obtain ⟨t, hrun, hot, hscan, ht⟩ := ih (by omega)
    obtain ⟨u, hstep, ⟨-, hu, hou⟩ | ⟨hlast, -⟩⟩ := step_scan hot
    · exact ⟨u, runsTo_trans hrun (runsTo_one hstep), hou, by omega, hI t u hot ht hstep⟩
    · omega

/-- What every cell step of a frame keeps holds when the frame, run from cell (0, 0), is done. -/
theorem frame_completes (hI : ∀ t u, t.opstate = .rendering → I t → step t = .next u → I u)
    (ho : s.opstate = .rendering) (h0 : I s) (hs : s.scan = 0) :
    ∃ t, RunsTo 1000 s t ∧ t.opstate = .ready ∧ I t := by
  obtain ⟨t, hrun, hot, hscan, ht⟩ := frame_reaches hI ho h0 999 (by omega)
  obtain ⟨u, hstep, ⟨hlast, -⟩ | ⟨-, hou⟩⟩ := step_scan hot
  · omega
  · exact ⟨u, runsTo_trans hrun (runsTo_one hstep), hou, hI t u hot ht hstep⟩

end Frame

/-- What a whole frame leaves alone: `UntouchedByCodes` without the latch, which every row start loads. -/
def UntouchedByFrame (s t : State) : Prop :=
  t.page = s.page ∧ t.font = s.font ∧ t.icon = s.icon ∧ t.showCtrl = s.showCtrl ∧ t.flashVisible = s.flashVisible ∧
  t.pageW = s.pageW ∧ t.pageH = s.pageH ∧ t.err = s.err ∧ t.requests = s.requests

theorem untouchedByFrame_refl (s : State) : UntouchedByFrame s s := by simp [UntouchedByFrame]

theorem untouchedByFrame_trans {s t u : State} (h : UntouchedByFrame s t) (h' : UntouchedByFrame t u) :
    UntouchedByFrame s u := by
  simp_all [UntouchedByFrame]

theorem step_untouchedByFrame {s t : State} (ho : s.opstate = .rendering) (h : step s = .next t) :
    UntouchedByFrame s t := by
  rcases step_cases h with ⟨-, i, -, he⟩ | ⟨hn, -⟩ | ⟨hn, -⟩
  · obtain ⟨hpage, hfont, hicon, -, hsc, hfv, hw, hh, herr, hreq⟩ := exec_untouched he
    simp [UntouchedByFrame, hpage, hfont, hicon, hsc, hfv, hw, hh, herr, hreq]
  · exact absurd ho hn
  · exact absurd ho hn

/-! ## What a request can leave (45_host_operations.md R210 to R218) -/

/-- Every way in which an answered request leaves the state: PAGE at most rewritten within its form, or BUILD or RENDER
failed or accepted. -/
inductive HostEffect (s : State) : State → Prop where
  | answered (page : Memory) (a : Reply) (hpage : Memory.wf 1000 s.page → Memory.wf 1000 page) :
      HostEffect s (answer a { s with page := page })
  | buildFailed (ho : s.opstate = .unbuilt) : HostEffect s (raiseError .assetLoadError s)
  | built (ho : s.opstate = .unbuilt) (f : List Byte) (ks : List (List (List Bool))) (hf : f.length = 3456)
      (hks : (iconBits ks).length = 6912) : HostEffect s (answer .ready (clearError (loadAssets f ks s)))
  | renderFailed (ho : s.opstate = .ready) : HostEffect s (raiseError .invalidInput s)
  | frameStarted (ho : s.opstate = .ready) (sc fv : Bool) : HostEffect s (startFrame 40 25 sc fv s)

theorem HostEffect.onlyAnswered (s : State) (a : Reply) : HostEffect s (answer a s) := .answered s.page a id

theorem answerRect_effect (legal : Bool) (r : Nat × Nat × Nat × Nat) (s : State) :
    HostEffect s (answerRect legal r s) := by
  unfold answerRect
  split
  · exact .onlyAnswered s _
  · exact .onlyAnswered s .refused

theorem hostBuild_effect (font : Option (List Byte)) (icons : Option (List (List (List Bool)))) (s : State) :
    HostEffect s (hostBuild font icons s) := by
  rcases hostBuild_cases font icons s with ⟨-, h⟩ | ⟨ho, -, h⟩ | ⟨ho, f, ks, ha, h⟩ <;> rw [h]
  · exact .onlyAnswered s .refused
  · exact .buildFailed ho
  · obtain ⟨-, -, hf, hks, hmask⟩ := acceptedAssets_some ha
    exact .built ho f ks hf (iconBits_length hks hmask)

theorem hostRender_effect (w h : Nat) (sc fv : Bool) (s : State) : HostEffect s (hostRender w h sc fv s) := by
  rcases hostRender_cases w h sc fv s with ⟨-, hr⟩ | ⟨ho, -, hr⟩ | ⟨ho, ⟨rfl, rfl⟩, hr⟩ <;> rw [hr]
  · exact .onlyAnswered s .refused
  · exact .renderFailed ho
  · exact .frameStarted ho sc fv

theorem hostSixelGet_effect (x y : Nat) (s : State) : HostEffect s (hostSixelGet x y s) := by
  unfold hostSixelGet
  split
  · exact .onlyAnswered s _
  · exact .onlyAnswered s .refused

theorem hostSixelSet_effect (x y : Nat) (mode : SetMode) (s : State) : HostEffect s (hostSixelSet x y mode s) := by
  unfold hostSixelSet
  split
  · next hl => exact .answered _ _ fun hp => sixelSet_wf mode hp hl
  · exact .onlyAnswered s .refused

theorem hostPageWrite_effect {addr : Nat} {bytes : List Byte} {s t : State}
    (h : hostPageWrite addr bytes s = .next t) : HostEffect s t := by
  unfold hostPageWrite at h
  split at h
  · next ha => cases h; exact .answered _ _ fun hp => memWriteList_wf bytes hp ha
  · cases h

/-- Everything that an answered request can do. -/
theorem hostRequest_effect {r : Request} {s t : State} (h : hostRequest r s = .next t) : HostEffect s t := by
  by_cases ho : s.opstate = .rendering
  · rw [hostRequest.eq_def, if_pos ho] at h
    cases h
    exact .onlyAnswered s .refused
  · rw [hostRequest.eq_def, if_neg ho] at h
    cases r with
    | build font icons => cases h; exact hostBuild_effect font icons s
    | render w h' sc fv => cases h; exact hostRender_effect w h' sc fv s
    | glyphCellPixelSize => cases h; exact .onlyAnswered s _
    | characterCellPixelBounds x y => cases h; exact answerRect_effect _ _ s
    | sixelPixelBounds x y => cases h; exact answerRect_effect _ _ s
    | sixelGet x y => cases h; exact hostSixelGet_effect x y s
    | sixelSet x y mode => cases h; exact hostSixelSet_effect x y mode s
    | pageWrite addr bytes => exact hostPageWrite_effect h

/-- No request leads out of FAILED, and none touches its error. -/
theorem HostEffect.keeps_failed {s t : State} (h : HostEffect s t) (hs : s.opstate = .failed) :
    t.opstate = .failed ∧ t.err = s.err := by
  cases h with
  | answered page a => exact ⟨hs, rfl⟩
  | buildFailed ho => simp [hs] at ho
  | built ho => simp [hs] at ho
  | renderFailed ho => simp [hs] at ho
  | frameStarted ho => simp [hs] at ho

/-! ## The part of the invariant about RowState (10_state.md R20) -/

/-- What `State.Inv` says of RowState and the latch beside it. -/
structure LegalRow (bottomHalf : Bool) (rs : RowState) : Prop where
  recordIsGraphic : rs.lastGraphicCode = 0 ∨ rs.lastGraphicCode.getLsbD 5 = true
  foregroundNotBlack : rs.foreground ≠ 0
  bottomHalfStartsNoPair : bottomHalf = true → rs.nextDoubleHeight = false

theorem State.Inv.legalRow {s : State} (h : s.Inv) : LegalRow s.bottomHalf s.rs :=
  ⟨h.recordIsGraphic, h.foregroundNotBlack, h.bottomHalfStartsNoPair⟩

theorem rowStartState_legal (carry bottomHalf : Bool) : LegalRow bottomHalf (rowStartState carry) :=
  ⟨.inl rfl, show white ≠ 0 by decide, fun _ => rfl⟩

theorem rowEntry_legal {s : State} (h : LegalRow s.bottomHalf s.rs) :
    LegalRow (rowEntry s).bottomHalf (rowEntry s).rs := by
  by_cases hc : s.col = 0
  · rw [rowEntry_of_col_zero hc]
    exact rowStartState_legal s.carry s.carry
  · rwa [rowEntry_of_col_ne_zero hc]

/-- Only a code with bit 5 is recorded (42_cell_pipeline.md R137). -/
theorem recordGraphic_legal {bottomHalf : Bool} {rs : RowState} (code : Code) (h : LegalRow bottomHalf rs) :
    LegalRow bottomHalf (recordGraphic code rs) := by
  unfold recordGraphic
  split
  · next hrec =>
    obtain ⟨-, hbit⟩ := Bool.and_eq_true_iff.1 hrec
    exact ⟨.inr hbit, h.foregroundNotBlack, h.bottomHalfStartsNoPair⟩
  · exact h

/-- A colour code other than black selects a foreground other than black (30_encoding.md R73). -/
theorem colourEffect_legal {bottomHalf : Bool} {rs : RowState} {code : Code} (hcode : colourField code ≠ 0)
    (h : LegalRow bottomHalf rs) : LegalRow bottomHalf (colourEffect code rs) :=
  ⟨h.recordIsGraphic, hcode, h.bottomHalfStartsNoPair⟩

/-- A control cell keeps RowState legal when its effect does. -/
theorem controlCell_legal {actual : Code} {effect : Bool → RowState → RowState} {s t : State}
    (h : controlCell actual effect s = .next t) (he : LegalRow s.bottomHalf (effect s.bottomHalf s.rs)) :
    LegalRow t.bottomHalf t.rs := by
  obtain ⟨u, hu, hfin, hrs⟩ := controlCell_next actual effect s
  cases h.symm.trans hu
  have hbh : t.bottomHalf = s.bottomHalf := by simp [hfin, finishCell]
  rwa [hrs, hbh]

theorem displayCell_legal {code : Code} {s t : State} (hs : LegalRow s.bottomHalf s.rs)
    (h : displayCell code s = .next t) : LegalRow t.bottomHalf t.rs := by
  cases h
  have hbh : (finishCell code none s).bottomHalf = s.bottomHalf := by simp [finishCell]
  rw [finishCell_rs, hbh]
  exact recordGraphic_legal code hs

/-- Every code keeps RowState legal: only a colour code writes the foreground, only code 13 the carried flag, only the
record the recorded code. -/
theorem exec_legal {i : Instr} {s t : State} (hs : LegalRow s.bottomHalf s.rs) (h : exec i s = .next t) :
    LegalRow t.bottomHalf t.rs := by
  have ⟨hrec, hfg, hpair⟩ := hs
  cases i with
  | nop00 | nop0A | nop0B | nop0E | nop0F | nop10 | nop18 | nop1B =>
    simp only [exec, execNop00, execNop0A, execNop0B, execNop0E, execNop0F, execNop10, execNop18, execNop1B] at h
    exact controlCell_legal h hs
  | alphaRed | alphaGreen | alphaYellow | alphaBlue | alphaMagenta | alphaCyan | alphaWhite
  | gfxRed | gfxGreen | gfxYellow | gfxBlue | gfxMagenta | gfxCyan | gfxWhite =>
    simp only [exec, execAlphaRed, execAlphaGreen, execAlphaYellow, execAlphaBlue, execAlphaMagenta, execAlphaCyan,
      execAlphaWhite, execGfxRed, execGfxGreen, execGfxYellow, execGfxBlue, execGfxMagenta, execGfxCyan,
      execGfxWhite] at h
    exact controlCell_legal h (colourEffect_legal (by decide) hs)
  | flashOn | flashOff | normalHeight | contiguousGfx | separatedGfx | blackBg | newBg | holdGfx | releaseGfx =>
    simp only [exec, execFlashOn, execFlashOff, execNormalHeight, execContiguousGfx, execSeparatedGfx, execBlackBg,
      execNewBg, execHoldGfx, execReleaseGfx] at h
    exact controlCell_legal h ⟨hrec, hfg, hpair⟩
  | doubleHeight =>
    simp only [exec, execDoubleHeight] at h
    exact controlCell_legal h ⟨hrec, hfg, fun hb => by simp [hb, hpair hb]⟩
  | dispG0 code | dispT code | dispG1 code => exact displayCell_legal hs h

/-! ## The part of the invariant about RASTER (20_memory.md R63) -/

/-- An entry past all listed addresses goes to the end. -/
theorem storePut_of_forall_lt {α : Type} {m : List (Nat × α)} {a : Nat} (v : α) (h : ∀ e ∈ m, e.1 < a) :
    storePut m a v = m ++ [(a, v)] := by
  induction m with
  | nil => rfl
  | cons e m ih =>
    obtain ⟨hk, hm⟩ := List.forall_mem_cons.1 h
    rw [storePut, if_neg (by omega), if_neg (by omega), ih hm, List.cons_append]

/-- The next cell drawn on a RASTER that holds the first `n` cells. -/
theorem storePut_addresses {α : Type} {m : List (Nat × α)} {n : Nat} (v : α) (h : m.map Prod.fst = List.range n) :
    (storePut m n v).map Prod.fst = List.range (n + 1) := by
  have hlt : ∀ e ∈ m, e.1 < n := fun e he => List.mem_range.1 (h ▸ List.mem_map_of_mem he)
  simp [storePut_of_forall_lt v hlt, h, List.range_succ]

theorem storePut_rasterWf {m : List (Nat × CellImage)} {a : Nat} {img : CellImage} (hm : rasterWf m) (ha : a < 1000)
    (himg : imageWf img) : rasterWf (storePut m a img) := by
  refine ⟨storePut_sorted a img hm.1, fun e he => ?_⟩
  rcases mem_storePut he with rfl | he
  · exact ⟨ha, himg⟩
  · exact hm.2 e he

theorem rasterProgress_of_rendering {s : State} (ho : s.opstate = .rendering) :
    rasterProgress s ↔ s.raster.map Prod.fst = List.range s.scan := by
  simp [rasterProgress, ho, scan_eq]

theorem rasterProgress_of_ready {s : State} (ho : s.opstate = .ready) :
    rasterProgress s ↔ s.raster = [] ∨ s.raster.map Prod.fst = List.range 1000 := by
  simp [rasterProgress, ho]

theorem raster_nil_of_unbuilt {s : State} (hs : s.Inv) (ho : s.opstate = .unbuilt) : s.raster = [] := by
  simpa [rasterProgress, ho] using hs.progress

/-! ## The invariant, kept by each kind of step -/

theorem State.Inv.rowEntry {s : State} (hs : s.Inv) : (rowEntry s).Inv := by
  obtain ⟨hrec, hfg, hpair⟩ := rowEntry_legal hs.legalRow
  exact
    { pageCanonical := by simpa using hs.pageCanonical
      fontCanonical := by simpa using hs.fontCanonical
      iconCanonical := by simpa using hs.iconCanonical
      rasterCanonical := by simpa using hs.rasterCanonical
      recordIsGraphic := hrec
      foregroundNotBlack := hfg
      bottomHalfStartsNoPair := hpair
      status := by simpa using hs.status
      latchedDimensions := by simpa using hs.latchedDimensions
      romsUnbuilt := by simpa using hs.romsUnbuilt
      progress := by simpa [rasterProgress] using hs.progress }

/-- A code run in a frame lists the one cell that is due, so RASTER holds what the new position says. -/
theorem exec_keeps_progress {i : Instr} {s t : State} (hs : rasterProgress s) (ho : s.opstate = .rendering)
    (h : exec i s = .next t) : rasterProgress t := by
  obtain ⟨img, -, hraster⟩ := exec_raster h
  have hlisted : t.raster.map Prod.fst = List.range (s.scan + 1) := by
    rw [hraster, storePut_addresses img ((rasterProgress_of_rendering ho).1 hs)]
  rcases exec_scan h with ⟨-, hscan, hot⟩ | ⟨hscan, hot⟩
  · rwa [rasterProgress_of_rendering (hot.trans ho), hscan]
  · rw [hscan] at hlisted
    exact (rasterProgress_of_ready hot).2 (.inr hlisted)

/-- A code run in a frame leaves a frame in progress or a ready block, with no error. -/
theorem exec_keeps_status {i : Instr} {s t : State} (ho : s.opstate = .rendering) (herr : s.err = .none)
    (h : exec i s = .next t) : (t.opstate = .rendering ∨ t.opstate = .ready) ∧ t.err = .none := by
  obtain ⟨-, -, -, -, -, -, -, -, hkept, -⟩ := exec_untouched h
  refine ⟨?_, hkept.trans herr⟩
  rcases exec_scan h with ⟨-, -, hot⟩ | ⟨-, hot⟩
  · exact .inl (hot.trans ho)
  · exact .inr hot

/-- A code run in a frame keeps the invariant. -/
theorem exec_keeps_inv {i : Instr} {s t : State} (hs : s.Inv) (ho : s.opstate = .rendering)
    (h : exec i s = .next t) : t.Inv := by
  obtain ⟨hpage, hfont, hicon, -, -, -, hw, hh, -, -⟩ := exec_untouched h
  obtain ⟨img, himg, hraster⟩ := exec_raster h
  obtain ⟨hrec, hfg, hpair⟩ := exec_legal hs.legalRow h
  have herr : s.err = .none := by simpa [statusAgrees, ho] using hs.status
  obtain ⟨hot, herrt⟩ := exec_keeps_status ho herr h
  exact
    { pageCanonical := hpage ▸ hs.pageCanonical
      fontCanonical := hfont ▸ hs.fontCanonical
      iconCanonical := hicon ▸ hs.iconCanonical
      rasterCanonical := hraster ▸ storePut_rasterWf hs.rasterCanonical (scan_lt s) himg
      recordIsGraphic := hrec
      foregroundNotBlack := hfg
      bottomHalfStartsNoPair := hpair
      status := by rcases hot with hot | hot <;> simp [statusAgrees, hot, herrt]
      latchedDimensions := fun _ => by rw [hw, hh]; exact hs.latchedDimensions ho
      romsUnbuilt := fun hroms => by rcases hot with hot | hot <;> simp [hot] at hroms
      progress := exec_keeps_progress hs.progress ho h }

theorem State.Inv.takeRequest {s : State} (hs : s.Inv) (rest : List Request) :
    State.Inv { s with requests := rest } :=
  { hs with }

theorem State.Inv.buildFailed {s : State} (hs : s.Inv) (ho : s.opstate = .unbuilt) :
    (raiseError .assetLoadError s).Inv := by
  have hnil : s.raster = [] := raster_nil_of_unbuilt hs ho
  exact
    { hs with
      status := rfl
      latchedDimensions := fun h => nomatch h
      romsUnbuilt := fun _ => hs.romsUnbuilt (.inl ho)
      progress := hnil }

theorem State.Inv.built {s : State} (hs : s.Inv) (ho : s.opstate = .unbuilt) {f : List Byte}
    {ks : List (List (List Bool))} (hf : f.length = 3456) (hks : (iconBits ks).length = 6912) :
    (answer .ready (clearError (loadAssets f ks s))).Inv := by
  have hnil : s.raster = [] := raster_nil_of_unbuilt hs ho
  exact
    { hs with
      fontCanonical := memLoad_wf f hf.le
      iconCanonical := bitLoad_wf (iconBits ks) hks.le
      status := .inl rfl
      latchedDimensions := fun h => nomatch h
      romsUnbuilt := by simp
      progress := .inl hnil }

theorem State.Inv.renderFailed {s : State} (hs : s.Inv) (ho : s.opstate = .ready) :
    (raiseError .invalidInput s).Inv :=
  { hs with status := by simp [statusAgrees, ho] }

theorem State.Inv.frameStarted {s : State} (hs : s.Inv) (sc fv : Bool) : (startFrame 40 25 sc fv s).Inv := by
  obtain ⟨hrec, hfg, hpair⟩ := rowStartState_legal false false
  exact
    { hs with
      rasterCanonical := by simp [rasterWf, storeSorted]
      recordIsGraphic := hrec
      foregroundNotBlack := hfg
      bottomHalfStartsNoPair := hpair
      status := rfl
      latchedDimensions := fun _ => ⟨rfl, rfl⟩
      romsUnbuilt := by simp
      progress := rfl }

/-- Every answered request keeps the invariant. -/
theorem HostEffect.keeps_inv {s t : State} (h : HostEffect s t) (hs : s.Inv) : t.Inv := by
  cases h with
  | answered page a hpage => exact { hs with pageCanonical := hpage hs.pageCanonical }
  | buildFailed ho => exact hs.buildFailed ho
  | built ho f ks hf hks => exact hs.built ho hf hks
  | renderFailed ho => exact hs.renderFailed ho
  | frameStarted ho sc fv => exact hs.frameStarted sc fv

/-! ## The statements of 10_state.md -/

/-- Settles O38: what a cell step leaves alone is an invariant of the frame's thousand steps. -/
theorem frameTakesThousandSteps : Obligations.FrameTakesThousandSteps := by
  intro s ho hrow hcol
  have hscan : s.scan = 0 := by simp [scan_eq, hrow, hcol]
  have hkeep : ∀ t u, t.opstate = .rendering → UntouchedByFrame s t → step t = .next u → UntouchedByFrame s u :=
    fun t u hot ht hstep => untouchedByFrame_trans ht (step_untouchedByFrame hot hstep)
  refine ⟨fun k hk => ?_, ?_⟩
  · obtain ⟨t, hrun, hot, hpos, -⟩ := frame_reaches hkeep ho (untouchedByFrame_refl s) k (by omega)
    exact ⟨t, hrun, hot, by rw [← scan_eq, hpos, hscan, Nat.zero_add]⟩
  · obtain ⟨t, hrun, hready, hpage, hfont, hicon, hsc, hfv, -, -, herr, hreq⟩ :=
      frame_completes hkeep ho (untouchedByFrame_refl s) hscan
    exact ⟨t, hrun, hready, herr, hpage, hfont, hicon, hsc, hfv, hreq⟩

/-- Settles O42: a cell step is a row entry and a code, and every other step is idle or answers a request. -/
theorem invariantKeptByEveryStep : Obligations.InvariantKeptByEveryStep := by
  intro s t hs h
  rcases step_cases h with ⟨ho, i, -, he⟩ | ⟨-, -, rfl⟩ | ⟨-, r, rest, -, hr⟩
  · exact exec_keeps_inv hs.rowEntry (by rw [rowEntry_opstate, ho]) he
  · exact hs
  · exact (hostRequest_effect hr).keeps_inv (hs.takeRequest rest)

/-- Settles O6: the first cell step of a row reads RowState and the latch only after the row start. -/
theorem rowStateNeverLeaks : Obligations.RowStateNeverLeaks := by
  intro s t k ho hc h
  have hot : t.opstate = .rendering := (congrArg State.opstate h).symm.trans ho
  have hfetch : fetchByte s = fetchByte t :=
    calc fetchByte s = fetchByte { s with rs := t.rs, bottomHalf := t.bottomHalf } := rfl
      _ = fetchByte t := congrArg fetchByte h
  have hstep : step s = step t := by
    rw [step_of_rendering ho, step_of_rendering hot, cellStep, cellStep, hfetch, rowEntry_forgets_rowState hc h]
  exact run_succ_congr k hstep

/-- Settles O8: every code ends in `advance`, whose three cases are the three clauses. -/
theorem everyCodeAdvancesTheScan : Obligations.EveryCodeAdvancesTheScan := by
  intro i s
  obtain ⟨rs, img, -, he⟩ := exec_eq_advance i s
  refine ⟨_, he, fun hc => ?_, fun hc hr => ?_, fun hc hr => ?_⟩
  · rw [advance_in_row (by simpa using hc)]
    exact ⟨rfl, rfl, rfl, rfl, rfl⟩
  · rw [advance_row_end (by simp [hc]) (by simpa using hr)]
    exact ⟨rfl, rfl, rfl, rfl, rfl⟩
  · rw [advance_frame_end (by simp [hc]) (by simp [hr])]
    exact ⟨rfl, rfl, rfl, rfl, rfl⟩

/-- Settles O51: a failed block runs no cell step, and of the host's moves none leads out. -/
theorem failedIsForEver : Obligations.FailedIsForEver := by
  intro s t hs h
  rcases step_cases h with ⟨ho, -⟩ | ⟨-, -, rfl⟩ | ⟨-, r, rest, -, hr⟩
  · simp [hs] at ho
  · exact ⟨hs, rfl⟩
  · exact (hostRequest_effect hr).keeps_failed hs

/-- Settles O5: `white` is colour 7 and `black` colour 0. -/
theorem rowStartReinitialises : Obligations.RowStartReinitialises := by
  intro s
  rfl

/-- Settles O43: every memory is empty and RowState is that of a row start. -/
theorem invariantHoldsAtReset : Obligations.InvariantHoldsAtReset := by
  obtain ⟨hpage, hfont, hicon⟩ := reset_memory_wf
  exact
    { pageCanonical := hpage
      fontCanonical := hfont
      iconCanonical := hicon
      rasterCanonical := by simp [State.reset, rasterWf, storeSorted]
      recordIsGraphic := .inl rfl
      foregroundNotBlack := by decide
      bottomHalfStartsNoPair := fun h => nomatch h
      status := rfl
      latchedDimensions := fun h => nomatch h
      romsUnbuilt := fun _ => ⟨rfl, rfl⟩
      progress := rfl }

/-- Settles O44: with no request the first host move is the idle one. -/
theorem resetIsUnbuiltAndIdle : Obligations.ResetIsUnbuiltAndIdle :=
  ⟨rfl, rfl, rfl, rfl, rfl, rfl, step_of_not_rendering (s := State.reset) (by decide)⟩

end Sys2Proof.Machine

/-! The memory spaces (20_memory.md): what a cell step writes of RASTER and what a frame has written at its end, the
entries of GLYPH, the host's writes of PAGE, the canonical form of a byte memory, and the word of a font row. -/

namespace Sys2Proof.Machine

/-! ## What a cell step writes of RASTER (20_memory.md R45, R63) -/

/-- The pixel lies in the cell's rectangle: 12 columns from `12·col`, 18 rows from `18·row`. -/
abbrev InCell (s : State) (X Y : Nat) : Prop :=
  12 * s.col.val ≤ X ∧ X < 12 * s.col.val + 12 ∧ 18 * s.row.val ≤ Y ∧ Y < 18 * s.row.val + 18

/-- A raster location lies in the cell at the scan position exactly when that cell is the one RASTER lists it under. -/
theorem inCell_iff {s : State} {X Y : Nat} (hX : X < 480) : InCell s X Y ↔ pageAddr (Y / 18) (X / 12) = s.scan := by
  have hcol := s.col.isLt
  rw [scan_eq, pageAddr]
  omega

/-- A step of a frame draws one whole image into the cell at the scan position. -/
theorem step_draws {s t : State} (ho : s.opstate = .rendering) (h : step s = .next t) :
    ∃ (img : CellImage) (u : State), imageWf img ∧ u.row = s.row ∧ u.col = s.col ∧ u.raster = s.raster ∧
      t.raster = (drawCell img u).raster := by
  rcases step_cases h with ⟨-, i, -, he⟩ | ⟨hn, -⟩ | ⟨hn, -⟩
  · obtain ⟨rs, img, himg, hadv⟩ := exec_eq_advance i (rowEntry s)
    cases hadv.symm.trans he
    exact ⟨img, { rowEntry s with rs := rs }, himg, by simp, by simp, by simp, by simp⟩
  · exact absurd ho hn
  · exact absurd ho hn

theorem imageWf_pixel_isSome {img : CellImage} (h : imageWf img) {py px : Nat} (hy : py < 18) (hx : px < 12) :
    ((img.getD py [])[px]?).isSome = true := by
  obtain ⟨hrows, hcols⟩ := h
  have hrow : (img.getD py []).length = 12 := hcols _ (getD_mem (hrows ▸ hy))
  rw [List.getElem?_eq_getElem (hrow ▸ hx), Option.isSome_some]

/-- Every one of the cell's 216 pixels has a colour after its step. -/
theorem step_rasterAt_inside {s t : State} (ho : s.opstate = .rendering) (h : step s = .next t) {py px : Nat}
    (hy : py < 18) (hx : px < 12) :
    (t.rasterAt (12 * s.col.val + px) (18 * s.row.val + py)).isSome = true := by
  obtain ⟨img, u, himg, hrow, hcol, -, hraster⟩ := step_draws ho h
  rw [rasterAt_congr hraster, ← hrow, ← hcol, rasterAt_drawCell_inside img u hy hx]
  exact imageWf_pixel_isSome himg hy hx

theorem step_rasterAt_outside {s t : State} (ho : s.opstate = .rendering) (h : step s = .next t) {X Y : Nat}
    (hout : ¬ InCell s X Y) : t.rasterAt X Y = s.rasterAt X Y := by
  obtain ⟨img, u, -, hrow, hcol, hkept, hraster⟩ := step_draws ho h
  rw [InCell, ← hrow, ← hcol] at hout
  rw [rasterAt_congr hraster, rasterAt_drawCell_outside img u hout, rasterAt_congr hkept]

/-! ## What a frame has written (20_memory.md R63) -/

/-- Every pixel of the cells that the scan has passed has a colour; once the frame is done, every pixel has one. -/
def PassedCellsWritten (s : State) : Prop :=
  ∀ X < 480, ∀ Y < 450, (s.opstate = .rendering → pageAddr (Y / 18) (X / 12) < s.scan) →
    (s.rasterAt X Y).isSome = true

theorem passedCellsWritten_at_start {s : State} (ho : s.opstate = .rendering) (hs : s.scan = 0) :
    PassedCellsWritten s := by
  intro X _ Y _ hpassed
  have := hpassed ho
  omega

/-- A cell passed after a step was passed before it, or is the cell of the step. -/
theorem step_passes {s t : State} (ho : s.opstate = .rendering) (h : step s = .next t) {n : Nat} (hn : n < 1000)
    (hpassed : t.opstate = .rendering → n < t.scan) : n < s.scan ∨ n = s.scan := by
  obtain ⟨u, hu, hscan⟩ := step_scan ho
  cases hu.symm.trans h
  rcases hscan with ⟨-, hnext, hot⟩ | ⟨hlast, -⟩
  · have := hpassed hot
    omega
  · omega

theorem step_keeps_passedCellsWritten {s t : State} (ho : s.opstate = .rendering) (hs : PassedCellsWritten s)
    (h : step s = .next t) : PassedCellsWritten t := by
  intro X hX Y hY hpassed
  have hcell : pageAddr (Y / 18) (X / 12) < 1000 := by
    rw [pageAddr]
    omega
  by_cases hin : InCell s X Y
  · obtain ⟨hleft, hright, htop, hbottom⟩ := hin
    obtain ⟨px, rfl⟩ := Nat.exists_eq_add_of_le hleft
    obtain ⟨py, rfl⟩ := Nat.exists_eq_add_of_le htop
    exact step_rasterAt_inside ho h (by omega) (by omega)
  · rw [step_rasterAt_outside ho h hin]
    rcases step_passes ho h hcell hpassed with hbefore | hnow
    · exact hs X hX Y hY fun _ => hbefore
    · exact absurd ((inCell_iff hX).2 hnow) hin

/-! ## The statements about RASTER -/

/-- Settles O39: each cell step writes its cell and keeps the cells written before it, and the scan passes every cell. -/
theorem frameWritesEveryPixel : Obligations.FrameWritesEveryPixel := by
  intro s ho hrow hcol
  have hscan : s.scan = 0 := by simp [scan_eq, hrow, hcol]
  obtain ⟨t, hrun, hready, hwritten⟩ :=
    frame_completes (fun _ _ => step_keeps_passedCellsWritten) ho (passedCellsWritten_at_start ho hscan) hscan
  exact ⟨t, hrun, hready, fun X hX Y hY => hwritten X hX Y hY fun h => by simp [hready] at h⟩

/-- Settles O53: the untouched fields are those of a frame's step, the pixels those of the image it draws. -/
theorem decoderWritesOnlyItsCell : Obligations.DecoderWritesOnlyItsCell := by
  intro s t ho h
  obtain ⟨hpage, -, -, -, -, -, -, herr, hreq⟩ := step_untouchedByFrame ho h
  exact ⟨hpage, hreq, herr, fun X Y => step_rasterAt_outside ho h, fun py hy px hx => step_rasterAt_inside ho h hy hx⟩

/-! ## The numbering of GLYPH (20_memory.md R44, 30_encoding.md R83) -/

theorem modeNumber_lt (m : RenderMode) : modeNumber m < 3 := by cases m <;> decide

theorem slotNumber_lt (sl : HeightSlot) : slotNumber sl < 3 := by cases sl <;> decide

/-- The three parts of an entry number: the code over 9, the mode over 3 and the slot, each read back by division. -/
theorem glyphIndex_parts (c : Code) (m : RenderMode) (sl : HeightSlot) :
    glyphIndex c m sl / 9 = c.toNat ∧ glyphIndex c m sl / 3 % 3 = modeNumber m ∧
      glyphIndex c m sl % 3 = slotNumber sl := by
  have hm := modeNumber_lt m
  have hsl := slotNumber_lt sl
  rw [glyphIndex]
  omega

/-- The mode that `glyphEntry` reads back from a number. -/
theorem mode_of_modeNumber (m : RenderMode) :
    (if modeNumber m = 0 then .normal else if modeNumber m = 1 then .graphics else .thinGraphics) = m := by
  cases m <;> rfl

/-- The slot that `glyphEntry` reads back from a number. -/
theorem slot_of_slotNumber (sl : HeightSlot) :
    (if slotNumber sl = 0 then .standard else if slotNumber sl = 1 then .upper else .lower) = sl := by
  cases sl <;> rfl

theorem glyphIndex_lt (c : Code) (m : RenderMode) (sl : HeightSlot) : glyphIndex c m sl < 1152 := by
  obtain ⟨hcode, -, -⟩ := glyphIndex_parts c m sl
  have hc := c.isLt
  omega

theorem glyphIndex_injective {c c' : Code} {m m' : RenderMode} {sl sl' : HeightSlot}
    (h : glyphIndex c m sl = glyphIndex c' m' sl') : c = c' ∧ m = m' ∧ sl = sl' := by
  obtain ⟨hcode, hmode, hslot⟩ := glyphIndex_parts c m sl
  obtain ⟨hcode', hmode', hslot'⟩ := glyphIndex_parts c' m' sl'
  rw [h] at hcode hmode hslot
  refine ⟨BitVec.eq_of_toNat_eq (hcode.symm.trans hcode'), ?_, ?_⟩
  · rw [← mode_of_modeNumber m, ← hmode, hmode', mode_of_modeNumber]
  · rw [← slot_of_slotNumber sl, ← hslot, hslot', slot_of_slotNumber]

theorem glyphEntry_glyphIndex (sep : Config.Separators) (font : Memory) (c : Code) (m : RenderMode) (sl : HeightSlot) :
    glyphEntry sep font (glyphIndex c m sl) = glyph sep font c m sl := by
  obtain ⟨hcode, hmode, hslot⟩ := glyphIndex_parts c m sl
  rw [glyphEntry, hcode, hmode, hslot, mode_of_modeNumber, slot_of_slotNumber, BitVec.ofNat_toNat, BitVec.setWidth_eq]

/-- Settles O29: the three parts of an entry number are read back from it, so it is the triple's own and finds its
glyph. -/
theorem glyphEntriesAreNumbered : Obligations.GlyphEntriesAreNumbered :=
  ⟨fun _ _ _ _ _ _ => glyphIndex_injective,
    fun sep font c m sl => ⟨glyphIndex_lt c m sl, glyphEntry_glyphIndex sep font c m sl⟩⟩

/-! ## The host's writes of PAGE (20_memory.md R40, R41, 45_host_operations.md R218) -/

theorem hostRequest_pageWrite {s : State} (ho : s.opstate ≠ .rendering) (addr : Nat) (bs : List Byte) :
    hostRequest (.pageWrite addr bs) s = hostPageWrite addr bs s := by
  rw [hostRequest.eq_def, if_neg ho]

theorem memRead_memWriteList_inside (m : Memory) (a : Nat) {bs : List Byte} {i : Nat} (hi : i < bs.length) :
    bs[i]? = some (memRead (memWriteList m a bs) (a + i)) := by
  simp [memRead_memWriteList, hi]

theorem memRead_memWriteList_outside (m : Memory) {a b : Nat} {bs : List Byte}
    (h : ¬ (a ≤ b ∧ b < a + bs.length)) : memRead (memWriteList m a bs) b = memRead m b := by
  rw [memRead_memWriteList]
  split
  · exact List.getD_eq_default _ _ (by omega)
  · rfl

/-- Settles O55: the write is `memWriteList`, whose reads are known; one that reaches past 999 is the fault. -/
theorem hostPageWriteStoresBytes : Obligations.HostPageWriteStoresBytes := by
  intro s addr bs ho
  rw [hostRequest_pageWrite ho, hostPageWrite]
  constructor
  · intro hfits
    rw [if_pos hfits]
    exact ⟨_, rfl, fun i hi => memRead_memWriteList_inside s.page addr hi,
      fun a ha => memRead_memWriteList_outside s.page ha, rfl⟩
  · intro hpast
    exact ⟨_, le_max_right addr 1000, if_neg (not_le.2 hpast)⟩

/-! ## The canonical form of a byte memory (20_memory.md R41, R42) -/

/-- In a sorted list of pairs, what is found at an address is what is listed there. -/
theorem storeFind_eq_some_iff {α : Type} {m : List (Nat × α)} (h : storeSorted m) {a : Nat} {v : α} :
    storeFind m a = some v ↔ (a, v) ∈ m := by
  induction m with
  | nil => simp
  | cons e m ih =>
    obtain ⟨k, w⟩ := e
    obtain ⟨hk, hm⟩ := List.pairwise_cons.1 h
    rw [storeFind_cons, List.mem_cons]
    split
    · next heq =>
      subst heq
      have hnot : (k, v) ∉ m := fun hv => (hk k (List.mem_map_of_mem hv)).false
      simp [hnot, eq_comm]
    · next hne => simp [ih hm, Ne.symm hne]

/-- Two sorted lists of pairs in which the same is found at every address are one list. -/
theorem storeSorted_ext {α : Type} {m m' : List (Nat × α)} (h : storeSorted m) (h' : storeSorted m')
    (hfind : ∀ a, storeFind m a = storeFind m' a) : m = m' := by
  have hmem : ∀ e, e ∈ m ↔ e ∈ m' := fun ⟨a, v⟩ => by
    rw [← storeFind_eq_some_iff h, ← storeFind_eq_some_iff h', hfind]
  have : Std.Asymm fun e e' : Nat × α => e.1 < e'.1 := ⟨fun _ _ hlt => hlt.not_gt⟩
  exact (List.pairwise_map.1 h).eq_of_mem_iff (List.pairwise_map.1 h') hmem

theorem storeFind_eq_none_of_wf {n : Nat} {m : Memory} (h : Memory.wf n m) {a : Nat} (ha : n ≤ a) :
    storeFind m a = none := by
  obtain ⟨-, hin⟩ := h
  refine storeFind_eq_none fun e he heq => ?_
  obtain ⟨hlt, -⟩ := hin e he
  omega

/-- In a canonical memory a read tells whether its address is listed: no entry is what an unlisted address reads as. -/
theorem storeFind_eq_of_wf {n : Nat} {m : Memory} (h : Memory.wf n m) (a : Nat) :
    storeFind m a = if memRead m a = unlistedByte then none else some (memRead m a) := by
  obtain ⟨hsorted, hin⟩ := h
  rw [memRead]
  cases hfind : storeFind m a with
  | none => simp
  | some v =>
    obtain ⟨-, hv⟩ := hin _ ((storeFind_eq_some_iff hsorted).1 hfind)
    simp [hv]

/-- Settles O57: the reads of a canonical memory say what is listed at every address, and that determines a sorted
list. -/
theorem canonicalMemoriesAreEqual : Obligations.CanonicalMemoriesAreEqual := by
  intro n m m' h h' hread
  refine storeSorted_ext h.1 h'.1 fun a => ?_
  rcases lt_or_ge a n with ha | ha
  · rw [storeFind_eq_of_wf h, storeFind_eq_of_wf h', hread a ha]
  · rw [storeFind_eq_none_of_wf h ha, storeFind_eq_none_of_wf h' ha]

/-! ## The word of a font row (20_memory.md R46) -/

theorem testBit_littleEndianWord (c d : Byte) (j : Nat) :
    (256 * d.toNat + c.toNat).testBit j = if j < 8 then c.getLsbD j else d.getLsbD (j - 8) := by
  simpa [BitVec.testBit_toNat] using Nat.testBit_two_pow_mul_add (i := 8) d.toNat c.isLt j

/-- Settles O23: columns 0 and 1 are the two low bits of `d`, columns 2 to 9 the bits of `c`, the others 0. -/
theorem fontRowIsLittleEndianWord : Obligations.FontRowIsLittleEndianWord := by
  intro c d k
  rw [testBit_littleEndianWord, fontRow]
  by_cases h0 : k = 0
  · simp [h0]
  by_cases h1 : k = 1
  · simp [h1]
  by_cases h9 : k ≤ 9
  · simp [h0, h1, h9, show 9 - k < 8 by omega]
  · simp [h0, h1, h9]

end Sys2Proof.Machine

/-! The encoding (30_encoding.md): which instruction a byte is, from its seven-bit code alone, and with that how decode and
encode agree. -/

namespace Sys2Proof

/-! ## The code of a byte (30_encoding.md R70, R71, R78) -/

@[simp] theorem codeOf_setWidth (c : Code) : codeOf (c.setWidth 8) = c := by
  simp [codeOf]

theorem setWidth_codeOf (b : Byte) : (codeOf b).setWidth 8 = b &&& 0x7F := by
  have hmod : b.toNat &&& 0x7F = b.toNat % 128 := Nat.and_two_pow_sub_one_eq_mod b.toNat 7
  refine BitVec.eq_of_toNat_eq ?_
  simp only [codeOf, BitVec.toNat_setWidth, BitVec.toNat_and, BitVec.reduceToNat, hmod]
  omega

@[simp] theorem codeOf_flip_bit7 (b : Byte) : codeOf (b ^^^ 0x80) = codeOf b := by
  simp [codeOf, BitVec.setWidth_xor]

/-- The class bits of a byte, in their place. -/
theorem and_classMask (b : Byte) : b &&& (0x60 : Byte) = (classOf (codeOf b)).setWidth 8 <<< 5 := by
  revert b; decide

/-! ## The row of an instruction (30_encoding.md R75) -/

/-- The row of the opcode map that an instruction is read from. -/
def rowOf : Instr → OpcodeRow
  | .dispG0 _ => ⟨0x20, 0x60, .dispG0⟩
  | .dispT _ => ⟨0x40, 0x60, .dispT⟩
  | .dispG1 _ => ⟨0x60, 0x60, .dispG1⟩
  | i => ⟨(instrCode i).setWidth 8, 0x7F, fun _ => i⟩

theorem rowOf_mem (i : Instr) : rowOf i ∈ opcodeRows := by
  cases i <;> simp [rowOf, instrCode, opcodeRows, opcodeRowsLow, opcodeRowsHigh, opcodeRowsDisplay]

/-- The map has no other rows: each one is the row of what it reads. -/
theorem eq_rowOf_of_mem {r : OpcodeRow} (hr : r ∈ opcodeRows) (c : Code) : r = rowOf (r.instr c) := by
  have hmap : opcodeRows.map id = opcodeRows.map fun r => rowOf (r.instr c) := rfl
  exact List.map_inj_left.1 hmap r hr

/-- A control row fixes all seven bits of the code. -/
theorem rowMatches_control_iff (b : Byte) (c : Code) (f : Code → Instr) :
    rowMatches b ⟨c.setWidth 8, 0x7F, f⟩ = true ↔ c = codeOf b := by
  rw [rowMatches, beq_iff_eq, ← setWidth_codeOf]
  constructor
  · intro h
    simpa using (congrArg codeOf h).symm
  · rintro rfl
    rfl

/-- A display row fixes the two class bits. -/
theorem rowMatches_display_iff (b : Byte) (k : BitVec 2) (f : Code → Instr) :
    rowMatches b ⟨k.setWidth 8 <<< 5, 0x60, f⟩ = true ↔ classOf (codeOf b) = k := by
  have hinj : ∀ j k : BitVec 2, j.setWidth 8 <<< 5 = k.setWidth 8 <<< 5 → j = k := by decide
  rw [rowMatches, beq_iff_eq, and_classMask]
  exact ⟨hinj _ _, fun h => by rw [h]⟩

/-- A display row reads the code itself as the operand. -/
theorem display_reads_iff (b : Byte) (k : BitVec 2) {f : Code → Instr} (hf : Function.Injective f) (c : Code) :
    (rowMatches b ⟨k.setWidth 8 <<< 5, 0x60, f⟩ = true ∧ f (codeOf b) = f c) ↔
      ((classOf c == k) = true ∧ c = codeOf b) := by
  rw [rowMatches_display_iff, hf.eq_iff, beq_iff_eq]
  constructor <;> rintro ⟨rfl, rfl⟩ <;> exact ⟨rfl, rfl⟩

/-- The row of `i` reads `i` from a byte exactly when `i` is well formed and the byte holds its code. -/
theorem rowOf_reads_iff (b : Byte) (i : Instr) :
    (rowMatches b (rowOf i) = true ∧ (rowOf i).instr (codeOf b) = i) ↔ (i.wf = true ∧ instrCode i = codeOf b) := by
  cases i with
  | dispG0 c => exact display_reads_iff b 0b01 (fun _ _ => Instr.dispG0.inj) c
  | dispT c => exact display_reads_iff b 0b10 (fun _ _ => Instr.dispT.inj) c
  | dispG1 c => exact display_reads_iff b 0b11 (fun _ _ => Instr.dispG1.inj) c
  | _ => exact (and_iff_left rfl).trans ((rowMatches_control_iff b _ _).trans (and_iff_right rfl).symm)

/-! ## The rows are disjoint (30_encoding.md R75) -/

/-- Two rows ask for different values of a bit that both look at. -/
def RowsClash (r r' : OpcodeRow) : Prop := r.pattern &&& r'.mask ≠ r'.pattern &&& r.mask

theorem opcodeRows_clash : opcodeRows.Pairwise RowsClash := by
  unfold RowsClash
  decide

theorem RowsClash.not_both {r r' : OpcodeRow} (h : RowsClash r r') {b : Byte} (hr : rowMatches b r = true) :
    rowMatches b r' ≠ true := by
  intro hr'
  apply h
  rw [← beq_iff_eq.1 hr, ← beq_iff_eq.1 hr', BitVec.and_assoc, BitVec.and_assoc, BitVec.and_comm r.mask]

theorem row_unique {b : Byte} {r r' : OpcodeRow} (hr : r ∈ opcodeRows) (hr' : r' ∈ opcodeRows)
    (hm : rowMatches b r = true) (hm' : rowMatches b r' = true) : r = r' := by
  by_contra hne
  have : Std.Symm RowsClash := ⟨fun _ _ h => h.symm⟩
  exact (opcodeRows_clash.forall hr hr' hne).not_both hm hm'

/-! ## What a byte decodes to -/

theorem decodeByte_of_row {b : Byte} {r : OpcodeRow} (hr : r ∈ opcodeRows) (hm : rowMatches b r = true) :
    decodeByte b = .ok (r.instr (codeOf b)) := by
  obtain ⟨r', hfind⟩ := Option.isSome_iff_exists.1 (List.find?_isSome.2 ⟨r, hr, hm⟩)
  obtain rfl := row_unique hr (List.mem_of_find?_eq_some hfind) hm (List.find?_some hfind)
  simp [decodeByte, hfind]

theorem decodeByte_inv {b : Byte} {i : Instr} (h : decodeByte b = .ok i) :
    ∃ r ∈ opcodeRows, rowMatches b r = true ∧ r.instr (codeOf b) = i := by
  unfold decodeByte at h
  split at h
  · next r hfind =>
    exact ⟨r, List.mem_of_find?_eq_some hfind, List.find?_some hfind, Except.ok.inj h⟩
  · cases h

/-- A byte is the well-formed instruction of its code. -/
theorem decodeByte_eq_ok_iff (b : Byte) (i : Instr) :
    decodeByte b = .ok i ↔ i.wf = true ∧ instrCode i = codeOf b := by
  rw [← rowOf_reads_iff]
  constructor
  · intro h
    obtain ⟨r, hr, hm, rfl⟩ := decodeByte_inv h
    rw [← eq_rowOf_of_mem hr]
    exact ⟨hm, rfl⟩
  · rintro ⟨hm, hi⟩
    rw [decodeByte_of_row (rowOf_mem i) hm, hi]

/-! ## The statements of 30_encoding.md -/

/-- Settles O1: the one byte of the encoding holds the code of `i`. -/
theorem encodedInstructionDecodes : Obligations.EncodedInstructionDecodes := fun i rest hwf =>
  decode_cons_of_decodeByte ((decodeByte_eq_ok_iff _ i).2 ⟨hwf, (codeOf_setWidth _).symm⟩) rest

/-- Settles O2: what the byte decodes to has the byte's code, which is all that the encoder writes and all that the
decoder reads. -/
theorem everyByteIsAnInstruction : Obligations.EveryByteIsAnInstruction := by
  intro b rest
  obtain ⟨i, hi⟩ := decodeByte_total b
  obtain ⟨hwf, hcode⟩ := (decodeByte_eq_ok_iff b i).1 hi
  have hencode : encode i = [b &&& 0x7F] := by rw [encode, hcode, setWidth_codeOf]
  have hflip : decodeByte (b ^^^ 0x80) = .ok i :=
    (decodeByte_eq_ok_iff _ i).2 ⟨hwf, hcode.trans (codeOf_flip_bit7 b).symm⟩
  exact ⟨i, decode_cons_of_decodeByte hi rest, hwf, hencode, hflip⟩

theorem decodeTableWord_of_code {n w : Nat} {i : Instr} (hwf : i.wf = true)
    (hcode : instrCode i = codeOf (tableByte n w)) : decodeTableWord n w = some i := by
  rw [decodeTableWord, decode_cons_of_decodeByte ((decodeByte_eq_ok_iff _ i).2 ⟨hwf, hcode⟩)]

/-- Settles O3: each word holds the code of its instruction. -/
theorem tableWordsDecode : Obligations.TableWordsDecode :=
  ⟨decodeTableWord_of_code rfl rfl, decodeTableWord_of_code rfl rfl, decodeTableWord_of_code rfl rfl,
    decodeTableWord_of_code rfl rfl, decodeTableWord_of_code rfl rfl, decodeTableWord_of_code rfl rfl,
    decodeTableWord_of_code rfl rfl, decodeTableWord_of_code rfl rfl⟩

end Sys2Proof

/-! The glyph set (40_glyphset.md): how each of its functions reads, the assets that BUILD loads, and that no later step
writes the ROMs. -/

namespace Sys2Proof.Machine

/-! ## A font row (40_glyphset.md R92) -/

/-- Bit `i` of byte `c` is shown in column `9 - i`. -/
theorem fontRow_of_bit (c d : Byte) {i : Nat} (hi : i < 8) : fontRow c d (9 - i) = c.getLsbD i := by
  rw [fontRow, if_neg (by omega), if_neg (by omega), if_pos (by omega), show 9 - (9 - i) = i by omega]

theorem lowTwoBits_eq_zero_iff (d : Byte) : d.extractLsb' 0 2 = 0 ↔ d.getLsbD 0 = false ∧ d.getLsbD 1 = false := by
  revert d; decide

/-- A row shows nothing exactly when the ten bits that it uses are 0. -/
theorem fontRow_blank_iff (c d : Byte) :
    (∀ px < 12, fontRow c d px = false) ↔ c = 0 ∧ d.extractLsb' 0 2 = 0 := by
  rw [lowTwoBits_eq_zero_iff]
  constructor
  · intro h
    have hbits : ∀ i < 8, c.getLsbD i = false := fun i hi => (fontRow_of_bit c d hi).symm.trans (h _ (by omega))
    have hc : c = 0 := BitVec.eq_of_getLsbD_eq fun i hi => (hbits i hi).trans BitVec.getLsbD_zero.symm
    exact ⟨hc, h 1 (by omega), h 0 (by omega)⟩
  · rintro ⟨rfl, hd0, hd1⟩ px -
    rw [fontRow, hd0, hd1]
    simp

/-! ## Literal glyphs (40_glyphset.md R93, R94, R104) -/

theorem literal_of_control (font : Memory) {c : Code} (h : c.toNat < 32) : literal font c = blankGlyph := by
  funext py px
  exact if_pos h

/-- The record of the space code stands at the head of FONT. -/
theorem literal_space (font : Memory) (py px : Nat) :
    literal font 32 py px = fontRow (memRead font (2 * py)) (memRead font (2 * py + 1)) px := by
  simp [literal, fontC, fontD, fontAddr]

theorem literal_space_blank_iff (font : Memory) :
    (∀ py < 18, ∀ px < 12, literal font 32 py px = false) ↔ FontSpaceBlank font :=
  forall₂_congr fun py _ => by simp only [literal_space, fontRow_blank_iff]

/-! ## Mosaics (40_glyphset.md R95 to R97) -/

theorem subCellIndex_lt {py px : Nat} (hy : py < 18) (hx : px < 12) : subCellIndex py px < 6 := by
  rw [subCellIndex]
  omega

/-- Every pixel of a 6×6 block belongs to the block's sub-cell. -/
theorem subCellIndex_block (sx sy : Nat) {dx dy : Nat} (hdx : dx < 6) (hdy : dy < 6) :
    subCellIndex (6 * sy + dy) (6 * sx + dx) = sx + 2 * sy := by
  rw [subCellIndex]
  omega

/-- The space code has bit 5 alone, and that bit is no sub-cell's. -/
theorem mosaic_space {py px : Nat} (hy : py < 18) (hx : px < 12) : mosaic 32 py px = false := by
  have hbits : ∀ n < 7, n ≠ 5 → (32 : Code).getLsbD n = false := by decide
  obtain ⟨hlt, hne⟩ := sixelBit_lt (subCellIndex_lt hy hx)
  exact hbits _ hlt hne

theorem thin_apply (sep : Config.Separators) (c : Code) (py px : Nat) :
    thin sep c py px = (mosaic c py px && !sep.cols px && !sep.rows py) := by
  rw [thin]
  cases sep.cols px <;> cases sep.rows py <;> simp

/-! ## The Standard bitmap of a mode, and the slots (40_glyphset.md R98, R99) -/

/-- A code without bit 5 has its literal glyph in every mode. -/
theorem standardGlyph_of_text (sep : Config.Separators) (font : Memory) {c : Code} (h : c.getLsbD 5 = false)
    (m : RenderMode) : standardGlyph sep font c m = literal font c := by
  have hg : ¬ graphicsCapable c = true := Bool.eq_false_iff.1 h
  cases m with
  | normal => rfl
  | graphics => exact if_neg hg
  | thinGraphics => exact if_neg hg

theorem standardGlyph_graphics (sep : Config.Separators) (font : Memory) {c : Code} (h : c.getLsbD 5 = true) :
    standardGlyph sep font c .graphics = mosaic c := if_pos h

theorem standardGlyph_thinGraphics (sep : Config.Separators) (font : Memory) {c : Code} (h : c.getLsbD 5 = true) :
    standardGlyph sep font c .thinGraphics = thin sep c := if_pos h

/-- A slot shows rows of the Standard bitmap. -/
theorem glyph_apply (sep : Config.Separators) (font : Memory) (c : Code) (m : RenderMode) (sl : HeightSlot)
    (py px : Nat) : glyph sep font c m sl py px = standardGlyph sep font c m (slotRow sl py) px := rfl

theorem slotRow_lt (sl : HeightSlot) {py : Nat} (hy : py < 18) : slotRow sl py < 18 := by
  cases sl <;> simp only [slotRow] <;> omega

theorem slotRow_upper_double (k : Nat) {j : Nat} (hj : j < 2) : slotRow .upper (2 * k + j) = k := by
  simp only [slotRow]
  omega

theorem slotRow_lower_double (k : Nat) {j : Nat} (hj : j < 2) : slotRow .lower (2 * k + j) = 9 + k := by
  simp only [slotRow]
  omega

/-! ## The assets of BUILD (40_glyphset.md R102, 20_memory.md R42, R43) -/

theorem getElem?_eq_memRead_memLoad {bs : List Byte} {i : Nat} (hi : i < bs.length) :
    bs[i]? = some (memRead (memLoad bs) i) := by
  simp [memRead_memLoad, hi]

theorem bitRead_bitLoad_of_getElem? {bs : List Bool} {i : Nat} {b : Bool} (h : bs[i]? = some b) :
    bitRead (bitLoad bs) i = b := by
  simp [bitRead_bitLoad, h]

/-- Both bytes of every font row lie inside the font asset. -/
theorem fontAddr_lt (c : Code) {y : Nat} (hy : y < 18) : fontAddr c y + 1 < 3456 := by
  have hc := c.isLt
  rw [fontAddr]
  omega

theorem iconAddr_lt {k py px : Nat} (hk : k < 32) (hy : py < 18) (hx : px < 12) : iconAddr k py px < 6912 := by
  rw [iconAddr]
  omega

theorem hostRequest_build {s : State} (ho : s.opstate ≠ .rendering) (f : Option (List Byte))
    (ks : Option (List (List (List Bool)))) : hostRequest (.build f ks) s = .next (hostBuild f ks s) := by
  rw [hostRequest.eq_def, if_neg ho]

/-- A block that is not built yet loads whole assets. -/
theorem hostBuild_of_accepted {s : State} (ho : s.opstate = .unbuilt) {font : Option (List Byte)}
    {icons : Option (List (List (List Bool)))} {f : List Byte} {ks : List (List (List Bool))}
    (h : acceptedAssets font icons = some (f, ks)) :
    hostBuild font icons s = answer .ready (clearError (loadAssets f ks s)) := by
  simp [hostBuild, ho, h]

/-! ## The ROMs after the build (40_glyphset.md R103) -/

/-- FONT and ICON are as they were and the block is still built. -/
def KeepsRoms (s t : State) : Prop := t.font = s.font ∧ t.icon = s.icon ∧ t.opstate ≠ .unbuilt

/-- Of the requests only BUILD writes the ROMs, and a built block refuses it. -/
theorem HostEffect.keepsRoms {s t : State} (h : HostEffect s t) (hs : s.opstate ≠ .unbuilt) : KeepsRoms s t := by
  cases h with
  | answered page a => exact ⟨rfl, rfl, hs⟩
  | buildFailed ho => exact absurd ho hs
  | built ho => exact absurd ho hs
  | renderFailed ho => exact ⟨rfl, rfl, by simp [ho]⟩
  | frameStarted ho sc fv => exact ⟨rfl, rfl, by simp⟩

/-- A code writes neither ROM, and moves `opstate` only to READY. -/
theorem exec_keepsRoms {i : Instr} {s t : State} (hs : s.opstate ≠ .unbuilt) (h : exec i s = .next t) :
    KeepsRoms s t := by
  obtain ⟨-, hfont, hicon, -⟩ := exec_untouched h
  refine ⟨hfont, hicon, ?_⟩
  rcases exec_scan h with ⟨-, -, hot⟩ | ⟨-, hot⟩
  · rwa [hot]
  · simp [hot]

/-! ## The statements of 40_glyphset.md -/

/-- Settles O28: code 0 has no bit 5 and is below 32; bit 5 of code 32 is no sub-cell's; the literal space glyph is the
first font record. -/
theorem blankGlyphs : Obligations.BlankGlyphs := by
  intro sep font
  refine ⟨fun m sl py _ px _ => ?_, fun sl py hy px hx => ?_, literal_space_blank_iff font⟩
  · rw [glyph_apply, standardGlyph_of_text sep font (by decide), literal_of_control font (by decide), blankGlyph]
  · have hblank : mosaic 32 (slotRow sl py) px = false := mosaic_space (slotRow_lt sl hy) hx
    constructor
    · rw [glyph_apply, standardGlyph_graphics sep font (by decide), hblank]
    · rw [glyph_apply, standardGlyph_thinGraphics sep font (by decide), thin_apply, hblank, Bool.false_and,
        Bool.false_and]

/-- Settles O49: the assets are accepted, and a loaded list reads at every address what it holds there. -/
theorem buildLoadsTheAssets : Obligations.BuildLoadsTheAssets := by
  intro s f ks ho hf hks hmask
  refine ⟨answer .ready (clearError (loadAssets f ks s)), ?_, rfl, rfl, rfl, rfl, fun c _ y hy => ?_,
    fun k hk py hy px hx => ?_⟩
  · rw [hostRequest_build (by simp [ho]), hostBuild_of_accepted ho (acceptedAssets_of_whole hf hks hmask)]
  · have hlt : fontAddr c y + 1 < f.length := hf ▸ fontAddr_lt c hy
    exact ⟨getElem?_eq_memRead_memLoad (Nat.lt_of_succ_lt hlt), getElem?_eq_memRead_memLoad hlt⟩
  · have hlt : iconAddr k.toNat py px < (iconBits ks).length := iconBits_length hks hmask ▸ iconAddr_lt hk hy hx
    have hbit := List.getElem?_eq_getElem hlt
    rw [← iconBits_getElem? hks hmask hk hy hx, hbit]
    exact congrArg some (bitRead_bitLoad_of_getElem? hbit).symm

/-- Settles O52: a step is a code, idle, or an answered request, and each of them keeps the ROMs of a built block. -/
theorem romsAreImmutable : Obligations.RomsAreImmutable := by
  intro s t hs h
  rcases step_cases h with ⟨-, i, -, he⟩ | ⟨-, -, rfl⟩ | ⟨-, r, rest, -, hr⟩
  · simpa [KeepsRoms] using exec_keepsRoms (s := rowEntry s) (by rwa [rowEntry_opstate]) he
  · exact ⟨rfl, rfl, hs⟩
  · exact (hostRequest_effect hr).keepsRoms hs

/-- Settles O24: each column is one branch of `fontRow`. -/
theorem fontRowColumns : Obligations.FontRowColumns := fun _ _ => rfl

/-- Settles O25: a block's pixels have one sub-cell index, and the mosaic shows that index's bit. -/
theorem mosaicFillsSubCells : Obligations.MosaicFillsSubCells := by
  intro sep font c hc sx _ sy _ dx hdx dy hdy
  calc glyph sep font c .graphics .standard (6 * sy + dy) (6 * sx + dx)
      = mosaic c (6 * sy + dy) (6 * sx + dx) := by rw [glyph_apply, standardGlyph_graphics sep font hc, slotRow]
    _ = c.getLsbD (sixelBit (sx + 2 * sy)) := by rw [mosaic, subCellIndex_block sx sy hdx hdy]

/-- Settles O26: with bit 5 the two bitmaps are `thin` and `mosaic`, without it every bitmap is the literal one. -/
theorem thinAndTextGlyphs : Obligations.ThinAndTextGlyphs := by
  refine fun sep font c py px => ⟨fun hc => ?_, fun hc m sl => ?_⟩
  · rw [glyph_apply, glyph_apply, standardGlyph_thinGraphics sep font hc, standardGlyph_graphics sep font hc, slotRow,
      thin_apply]
  · rw [glyph_apply, glyph_apply, standardGlyph_of_text sep font hc, standardGlyph_of_text sep font hc]

/-- Settles O27: the slot's row is the Standard row doubled. -/
theorem heightSlotsSampleTheirHalves : Obligations.HeightSlotsSampleTheirHalves := by
  intro sep font c m k _ px _ j hj
  constructor
  · rw [glyph_apply, glyph_apply, slotRow_upper_double k hj, slotRow]
  · rw [glyph_apply, glyph_apply, slotRow_lower_double k hj, slotRow]

end Sys2Proof.Machine

/-! Sixel addressing (41_sixel_addressing.md): the address and the bit of a sub-cell, what `set` does to the one bit that it
addresses, and the mosaic cell in which `get` is seen. -/

namespace Sys2Proof.Machine

/-! ## The address of a sub-cell (41_sixel_addressing.md R110 to R113) -/

theorem sixelBit_remap {i : Nat} (h : i < 6) : sixelBit i = if i = 5 then 6 else i := by
  interval_cases i <;> rfl

theorem sixelBit_mem {i : Nat} (h : i < 6) : sixelBit i ∈ [0, 1, 2, 3, 4, 6] := getD_mem h

theorem sixelCell_eq (x y : Nat) : sixelCell x y = 40 * (y / 3) + x / 2 := rfl

theorem sixelLegal_of_le {x y : Nat} (hx : x ≤ 79) (hy : y ≤ 74) : sixelLegal x y = true := by
  simp [sixelLegal, hx, hy]

/-- The address gives the cell's row and column, the bit the place inside the cell. -/
theorem sixelAddr_injective {x y x' y' : Nat} (hx : x ≤ 79) (hx' : x' ≤ 79) (h : sixelAddr x y = sixelAddr x' y') :
    x = x' ∧ y = y' := by
  obtain ⟨hcell, hbit⟩ := Prod.mk.inj h
  have hindex := sixelBit_injective (sixelIndex_lt x y) (sixelIndex_lt x' y') hbit
  rw [sixelCell_eq, sixelCell_eq] at hcell
  rw [sixelIndex, sixelIndex] at hindex
  omega

/-! ## The one bit of a `set` (41_sixel_addressing.md R115 to R117) -/

/-- What a `set` leaves in the bit that it addresses. -/
def bitAfterSet : SetMode → Bool → Bool
  | .on, _ => true
  | .off, _ => false
  | .toggle, b => !b

/-- The mask of bit `b`. -/
theorem getLsbD_bitMask (b : Nat) {j : Nat} (hj : j < 8) : (1#8 <<< b).getLsbD j = decide (j = b) := by
  by_cases h : j = b
  · subst h
    simp [hj]
  · rw [← BitVec.twoPow_eq, BitVec.getLsbD_twoPow, decide_eq_false (Ne.symm h), decide_eq_false h, Bool.and_false]

theorem getLsbD_applySetMode (m : SetMode) (v : Byte) (b : Nat) {j : Nat} (hj : j < 8) :
    (applySetMode m v b).getLsbD j = if j = b then bitAfterSet m (v.getLsbD j) else v.getLsbD j := by
  cases m with
  | on =>
    rw [applySetMode, BitVec.getLsbD_or, getLsbD_bitMask b hj]
    by_cases h : j = b <;> simp [h, bitAfterSet]
  | off =>
    rw [applySetMode, BitVec.getLsbD_and, BitVec.getLsbD_not, getLsbD_bitMask b hj]
    by_cases h : j = b <;> simp [h, hj, bitAfterSet]
  | toggle =>
    rw [applySetMode, BitVec.getLsbD_xor, getLsbD_bitMask b hj]
    by_cases h : j = b <;> simp [h, bitAfterSet]

theorem getLsbD_applySetMode_other (m : SetMode) (v : Byte) {b j : Nat} (hj : j ≠ b) :
    (applySetMode m v b).getLsbD j = v.getLsbD j := by
  rcases lt_or_ge j 8 with hlt | hge
  · rw [getLsbD_applySetMode m v b hlt, if_neg hj]
  · rw [BitVec.getLsbD_of_ge _ _ hge, BitVec.getLsbD_of_ge _ _ hge]

theorem memRead_sixelSet_same (page : Memory) (x y : Nat) (m : SetMode) :
    memRead (sixelSet page x y m) (sixelCell x y) =
      applySetMode m (memRead page (sixelCell x y)) (sixelBit (sixelIndex x y)) :=
  memRead_memWrite_same _ _ _

theorem memRead_sixelSet_other (page : Memory) (x y : Nat) (m : SetMode) {a : Nat} (ha : a ≠ sixelCell x y) :
    memRead (sixelSet page x y m) a = memRead page a :=
  memRead_memWrite_other _ _ ha

/-- A bit of PAGE that is not the addressed one is left as it was. -/
theorem getLsbD_memRead_sixelSet_other (page : Memory) (x y : Nat) (m : SetMode) {a b : Nat}
    (h : (a, b) ≠ sixelAddr x y) :
    (memRead (sixelSet page x y m) a).getLsbD b = (memRead page a).getLsbD b := by
  by_cases ha : a = sixelCell x y
  · subst ha
    have hb : b ≠ sixelBit (sixelIndex x y) := fun hb => h (congrArg _ hb)
    rw [memRead_sixelSet_same, getLsbD_applySetMode_other m _ hb]
  · rw [memRead_sixelSet_other page x y m ha]

theorem sixelGet_sixelSet_same (page : Memory) (x y : Nat) (m : SetMode) :
    sixelGet (sixelSet page x y m) x y = bitAfterSet m (sixelGet page x y) := by
  obtain ⟨hlt, -⟩ := sixelBit_lt (sixelIndex_lt x y)
  simp only [sixelGet, sixelAddr]
  rw [memRead_sixelSet_same, getLsbD_applySetMode m _ _ (by omega), if_pos rfl]

/-! ## The mosaic cell in which `get` is seen (41_sixel_addressing.md R119) -/

theorem getLsbD_codeOf (b : Byte) {n : Nat} (hn : n < 7) : (codeOf b).getLsbD n = b.getLsbD n := by
  simp [codeOf, hn]

/-- No control code has bit 5. -/
theorem exec_of_bit5 {i : Instr} (h : (instrCode i).getLsbD 5 = true) (s : State) :
    exec i s = displayCell (instrCode i) s := by
  cases i with
  | dispG0 c => rfl
  | dispT c => rfl
  | dispG1 c => rfl
  | _ => exact absurd h (by decide)

theorem flashedCode_of_shown {rs : RowState} {flashVisible : Bool} (h : rs.flash = false ∨ flashVisible = true)
    (c : Code) : flashedCode rs flashVisible c = c := by
  rcases h with h | h <;> simp [flashedCode, h]

theorem glyphBit_of_contiguousStandard {s : State} (hgfx : s.rs.graphicsOn = true)
    (hsep : s.rs.separatedGraphics = false) (hdh : s.rs.doubleHeight = false) (hbot : s.bottomHalf = false)
    (c : Code) : glyphBit s c = glyph Config.separators s.font c .graphics .standard := by
  simp [glyphBit, heightSlot, renderMode, hgfx, hsep, hdh, hbot]

/-- With two different colours, a display pixel is the foreground exactly where the glyph is set. -/
theorem cellPixel_eq_foreground_iff {s : State} (hne : s.rs.foreground ≠ s.rs.background) (c : Code) (py px : Nat) :
    cellPixel s c none py px = s.rs.foreground ↔ glyphBit s c py px = true := by
  simp [cellPixel, hne.symm]

/-- The code of the byte at a sub-cell's cell has the sub-cell's bit. -/
theorem sixelGet_eq_codeOf (page : Memory) (x y : Nat) :
    sixelGet page x y = (codeOf (memRead page (sixelCell x y))).getLsbD (sixelBit (x % 2 + 2 * (y % 3))) :=
  (getLsbD_codeOf _ (sixelBit_lt (sixelIndex_lt x y)).1).symm

/-! ## The statements of 41_sixel_addressing.md -/

/-- Settles O31: the cell is within the page, and cell and bit together determine the sub-cell. -/
theorem sixelAddressesAreDistinct : Obligations.SixelAddressesAreDistinct := by
  intro x y x' y' hx hy hx' _
  exact ⟨rfl, sixelCell_lt (sixelLegal_of_le hx hy), sixelBit_mem (sixelIndex_lt x y), sixelAddr_injective hx hx'⟩

/-- Settles O32: the sub-cell's own bit is what the mode leaves, and any other sub-cell has another address or bit. -/
theorem sixelGetAfterSet : Obligations.SixelGetAfterSet := by
  intro page x y hx _
  refine ⟨sixelGet_sixelSet_same page x y .on, sixelGet_sixelSet_same page x y .off,
    sixelGet_sixelSet_same page x y .toggle, fun m x' y' hx' _ hother => ?_⟩
  have haddr : sixelAddr x' y' ≠ sixelAddr x y := fun h => hother (sixelAddr_injective hx' hx h)
  exact getLsbD_memRead_sixelSet_other page x y m haddr

/-- Settles O33: the write is of the sub-cell's byte, and the mask of its bit alone. -/
theorem sixelSetChangesOneBit : Obligations.SixelSetChangesOneBit := by
  intro page x y m
  refine ⟨fun a ha => memRead_sixelSet_other page x y m ha, fun b hb => ?_⟩
  exact getLsbD_memRead_sixelSet_other page x y m fun h => hb (Prod.mk.inj h).2

/-- Settles O35: bit 5 makes the instruction a display cell of the byte's code, whose mosaic shows in the block of a
sub-cell the bit that `get` reads. -/
theorem mosaicAgreesWithSixelGet : Obligations.MosaicAgreesWithSixelGet := by
  intro s i hbit5 hdec hgfx hsep hdh hbot hflash hne
  obtain ⟨-, hcode⟩ := (decodeByte_eq_ok_iff _ i).1 hdec
  have h5 : (instrCode i).getLsbD 5 = true := by rw [hcode, getLsbD_codeOf _ (by decide), hbit5]
  refine ⟨_, (exec_of_bit5 h5 s).trans (displayCell_next _ s), fun x y hx hy dx hdx dy hdy => ?_⟩
  have hX : 6 * x + dx = 12 * s.col.val + (6 * (x % 2) + dx) := by omega
  have hY : 6 * y + dy = 18 * s.row.val + (6 * (y % 3) + dy) := by omega
  have hget : sixelGet s.page x y = (instrCode i).getLsbD (sixelBit (x % 2 + 2 * (y % 3))) := by
    rw [sixelGet_eq_codeOf, sixelCell_eq, hx, hy, hcode]
  have hpixel : glyph Config.separators s.font (instrCode i) .graphics .standard (6 * (y % 3) + dy) (6 * (x % 2) + dx) =
      sixelGet s.page x y :=
    (mosaicFillsSubCells _ _ _ h5 _ (by omega) _ (by omega) dx hdx dy hdy).trans hget.symm
  rw [hX, hY, rasterAt_finishCell_inside _ none s (by omega) (by omega), Option.some_inj,
    flashedCode_of_shown hflash, cellPixel_eq_foreground_iff hne, glyphBit_of_contiguousStandard hgfx hsep hdh hbot,
    hpixel]

/-- Settles O30: the index is below 6, and the remap is checked at each of the six. -/
theorem sixelRemap : Obligations.SixelRemap := by
  intro x y
  have hlt := sixelIndex_lt x y
  obtain ⟨hbit, hbit5⟩ := sixelBit_lt hlt
  exact ⟨rfl, hlt, sixelBit_remap hlt, hbit5, by omega⟩

end Sys2Proof.Machine


/-! The cell pipeline (42_cell_pipeline.md): what a cell step reads, what a run of cells makes of it, the carry of a row, and
a page of spaces. -/

namespace Sys2Proof.Machine

/-! ## What the record of step 5 keeps (42_cell_pipeline.md R137) -/

@[simp] theorem recordGraphic_doubleHeight (code : Code) (rs : RowState) :
    (recordGraphic code rs).doubleHeight = rs.doubleHeight := by
  unfold recordGraphic
  split <;> rfl

@[simp] theorem recordGraphic_nextDoubleHeight (code : Code) (rs : RowState) :
    (recordGraphic code rs).nextDoubleHeight = rs.nextDoubleHeight := by
  unfold recordGraphic
  split <;> rfl

@[simp] theorem recordGraphic_background (code : Code) (rs : RowState) :
    (recordGraphic code rs).background = rs.background := by
  unfold recordGraphic
  split <;> rfl

/-- Nothing is recorded in text mode. -/
theorem recordGraphic_of_text {rs : RowState} (h : rs.graphicsOn = false) (code : Code) : recordGraphic code rs = rs := by
  simp [recordGraphic, h]

/-! ## A suppressed cell (42_cell_pipeline.md R135, R146) -/

/-- In a bottom-half row a cell without double height shows no glyph. -/
theorem glyphBit_of_suppressed {s : State} (hbot : s.bottomHalf = true) (hdh : s.rs.doubleHeight = false) (code : Code) :
    glyphBit s code = blankGlyph := by
  simp [glyphBit, heightSlot, hbot, hdh]

/-- Without `show_ctrl` a blank cell is its background. -/
theorem cellPixel_of_blank {s : State} {code : Code} (hsc : s.showCtrl = false) (hblank : glyphBit s code = blankGlyph)
    (actual : Option Code) (py px : Nat) : cellPixel s code actual py px = s.rs.background := by
  cases actual <;> simp [cellPixel, hsc, hblank, blankGlyph]

/-- A suppressed cell is drawn in the background of the RowState that the cell leaves. -/
theorem rasterAt_finishCell_suppressed {s : State} (hbot : s.bottomHalf = true) (hdh : s.rs.doubleHeight = false)
    (hsc : s.showCtrl = false) (code : Code) (actual : Option Code) {py px : Nat} (hy : py < 18) (hx : px < 12) :
    (finishCell code actual s).rasterAt (12 * s.col.val + px) (18 * s.row.val + py) =
      some (finishCell code actual s).rs.background := by
  rw [rasterAt_finishCell_inside code actual s hy hx, cellPixel_of_blank hsc (glyphBit_of_suppressed hbot hdh _),
    finishCell_rs, recordGraphic_background]

/-! ## The scan advance (42_cell_pipeline.md R145, R148) -/

/-- It reads neither `flash_visible` nor RASTER. -/
theorem advance_with_pixels (s : State) (fv : Bool) (raster : List (Nat × CellImage)) :
    advance { s with flashVisible := fv, raster := raster } =
      { advance s with flashVisible := fv, raster := raster } := by
  unfold advance
  split
  · rfl
  · split <;> rfl

theorem advance_carry_cases (s : State) : (advance s).carry = s.carry ∨ (advance s).carry = s.rs.nextDoubleHeight := by
  rcases advance_cases s with ⟨_, ha⟩ | ⟨-, _, ha⟩ | ⟨-, -, ha⟩ <;> rw [ha]
  · exact .inl rfl
  · exact .inr rfl
  · exact .inr rfl

theorem advance_carry_at_row_end {s : State} (hc : s.col.val = 39) : (advance s).carry = s.rs.nextDoubleHeight := by
  rcases advance_cases s with ⟨hlt, -⟩ | ⟨-, _, ha⟩ | ⟨-, -, ha⟩
  · exact absurd hc (Nat.ne_of_lt hlt)
  · rw [ha]
  · rw [ha]

/-! ## The instruction of a cell (42_cell_pipeline.md R130, R132, R143) -/

theorem step_of_decodeByte {s : State} (ho : s.opstate = .rendering) {i : Instr}
    (hi : decodeByte (fetchByte s) = .ok i) : step s = exec i (rowEntry s) :=
  (step_of_rendering ho).trans (cellStep_of_decodeByte hi)

/-- A step of a frame runs the well-formed instruction with the code of the fetched byte. -/
theorem step_runs_code {s : State} (ho : s.opstate = .rendering) :
    ∃ i, i.wf = true ∧ instrCode i = codeOf (fetchByte s) ∧ step s = exec i (rowEntry s) := by
  obtain ⟨i, hi⟩ := decodeByte_total (fetchByte s)
  obtain ⟨hwf, hcode⟩ := (decodeByte_eq_ok_iff _ i).1 hi
  exact ⟨i, hwf, hcode, step_of_decodeByte ho hi⟩

theorem decodeByte_of_decode {b : Byte} {i : Instr} {rest : List Byte} (h : decode (b :: rest) = .ok (i, rest)) :
    decodeByte b = .ok i := by
  obtain ⟨j, hj⟩ := decodeByte_total b
  cases (decode_cons_of_decodeByte hj rest).symm.trans h
  exact hj

/-! ## The start of a frame (42_cell_pipeline.md R130) -/

theorem hostRequest_render {s : State} (ho : s.opstate = .ready) (sc fv : Bool) :
    hostRequest (.render 40 25 sc fv) s = .next (startFrame 40 25 sc fv s) := by
  rcases hostRender_cases 40 25 sc fv s with ⟨hn, -⟩ | ⟨-, hn, -⟩ | ⟨-, -, h⟩
  · exact absurd ho hn
  · exact absurd ⟨rfl, rfl⟩ hn
  · rw [hostRequest.eq_def, if_neg (by simp [ho]), ← h]

/-! ## Runs of some cells of a frame -/

/-- Where a frame stands after `p` cells: before cell `p`, or done. -/
def AtPosition (p : Nat) (s : State) : Prop :=
  (p < 1000 → s.opstate = .rendering ∧ s.scan = p) ∧ (p = 1000 → s.opstate = .ready)

theorem atPosition_of_rendering {s : State} (ho : s.opstate = .rendering) : AtPosition s.scan s :=
  ⟨fun _ => ⟨ho, rfl⟩, fun h => absurd h (scan_lt s).ne⟩

theorem startFrame_atPosition (w h : Nat) (sc fv : Bool) (s : State) : AtPosition 0 (startFrame w h sc fv s) :=
  atPosition_of_rendering (s := startFrame w h sc fv s) rfl

theorem scan_of_col_zero {s : State} (hc : s.col.val = 0) : s.scan = 40 * s.row.val := by
  rw [scan_eq, hc, Nat.add_zero]

theorem AtPosition.step {p : Nat} {s : State} (h : AtPosition p s) (hp : p < 1000) :
    ∃ t, step s = .next t ∧ AtPosition (p + 1) t := by
  obtain ⟨hbefore, -⟩ := h
  obtain ⟨ho, hscan⟩ := hbefore hp
  obtain ⟨t, hstep, ⟨hlt, hnext, hot⟩ | ⟨hlast, hready⟩⟩ := step_scan ho
  · exact ⟨t, hstep, fun _ => ⟨hot, by omega⟩, fun _ => by omega⟩
  · exact ⟨t, hstep, fun _ => by omega, fun _ => hready⟩

section Run

variable {p n : Nat} {s s' : State}

/-- A run of `n` cells of a frame from position `p`, with what each of its steps hands on to the next. -/
theorem run_cells {I : Nat → State → Prop} (hs : AtPosition p s) (h0 : I 0 s) (hpn : p + n ≤ 1000)
    (hI : ∀ k < n, ∀ t u, t.opstate = .rendering → t.scan = p + k → I k t → step t = .next u → I (k + 1) u) :
    ∃ t, RunsTo n s t ∧ AtPosition (p + n) t ∧ I n t := by
  induction n with
  | zero => exact ⟨s, runsTo_zero s, hs, h0⟩
  | succ n ih =>
    obtain ⟨t, hrun, hpos, ht⟩ := ih (by omega) fun k hk => hI k (by omega)
    obtain ⟨ho, hscan⟩ := hpos.1 (by omega)
    obtain ⟨u, hstep, hu⟩ := hpos.step (by omega)
    exact ⟨u, runsTo_trans hrun (runsTo_one hstep), hu, hI n (by omega) t u ho hscan ht hstep⟩

/-- Two runs of the same cells side by side, with what each pair of steps hands on to the next. -/
theorem run_cells_paired {R : Nat → State → State → Prop} (hs : AtPosition p s) (hs' : AtPosition p s')
    (h0 : R 0 s s') (hpn : p + n ≤ 1000)
    (hR : ∀ k < n, ∀ t t' u u', t.opstate = .rendering → t'.opstate = .rendering → t.scan = p + k →
      R k t t' → step t = .next u → step t' = .next u' → R (k + 1) u u') :
    ∃ t t', RunsTo n s t ∧ RunsTo n s' t' ∧ AtPosition (p + n) t ∧ AtPosition (p + n) t' ∧ R n t t' := by
  obtain ⟨t, hrun, hpos, t', hrun', hpos', ht⟩ :=
    run_cells (I := fun k t => ∃ t', RunsTo k s' t' ∧ AtPosition (p + k) t' ∧ R k t t') hs
      ⟨s', runsTo_zero s', hs', h0⟩ hpn fun k hk t u ho hscan ⟨t', hrun', hpos', ht⟩ hstep => by
        obtain ⟨ho', -⟩ := hpos'.1 (by omega)
        obtain ⟨u', hstep', hu'⟩ := hpos'.step (by omega)
        exact ⟨u', runsTo_trans hrun' (runsTo_one hstep'), hu', hR k hk t t' u u' ho ho' hscan ht hstep hstep'⟩
  exact ⟨t, t', hrun, hrun', hpos, hpos', ht⟩

end Run

/-! ## What a cell step reads (42_cell_pipeline.md R131) -/

/-- Two states show a cell step the same, PAGE left aside: all else that it reads, of the ROMs only what lies in them. -/
structure SameInputs (s s' : State) : Prop where
  rs : s'.rs = s.rs
  bottomHalf : s'.bottomHalf = s.bottomHalf
  carry : s'.carry = s.carry
  row : s'.row = s.row
  col : s'.col = s.col
  showCtrl : s'.showCtrl = s.showCtrl
  flashVisible : s'.flashVisible = s.flashVisible
  font : ∀ a < 3456, memRead s'.font a = memRead s.font a
  icon : ∀ a < 6912, bitRead s'.icon a = bitRead s.icon a

/-- A row start overwrites RowState and the latch, and reads the carry alone. -/
theorem sameInputs_rowStart {s s' : State} (hcarry : s'.carry = s.carry) (hrow : s'.row = s.row) (hcol : s'.col = s.col)
    (hsc : s'.showCtrl = s.showCtrl) (hfv : s'.flashVisible = s.flashVisible)
    (hfont : ∀ a < 3456, memRead s'.font a = memRead s.font a)
    (hicon : ∀ a < 6912, bitRead s'.icon a = bitRead s.icon a) : SameInputs (rowStart s) (rowStart s') :=
  ⟨congrArg rowStartState hcarry, hcarry, hcarry, hrow, hcol, hsc, hfv, hfont, hicon⟩

/-- RENDER writes all but the memories anew. -/
theorem sameInputs_startFrame {s s' : State} (hfont : ∀ a < 3456, memRead s'.font a = memRead s.font a)
    (hicon : ∀ a < 6912, bitRead s'.icon a = bitRead s.icon a) (w h : Nat) (sc fv : Bool) :
    SameInputs (startFrame w h sc fv s) (startFrame w h sc fv s') :=
  ⟨rfl, rfl, rfl, rfl, rfl, rfl, rfl, hfont, hicon⟩

namespace SameInputs

variable {s s' : State}

theorem scan (h : SameInputs s s') : s'.scan = s.scan := by
  rw [State.scan, State.scan, h.row, h.col]

theorem writeRowState (h : SameInputs s s') {rs rs' : RowState} (hrs : rs' = rs) :
    SameInputs { s with rs := rs } { s' with rs := rs' } :=
  { h with rs := hrs }

theorem drawCell (h : SameInputs s s') (img img' : CellImage) : SameInputs (drawCell img s) (drawCell img' s') :=
  { h with }

theorem advance (h : SameInputs s s') : SameInputs (advance s) (advance s') := by
  have hnext : s'.rs.nextDoubleHeight = s.rs.nextDoubleHeight := by rw [h.rs]
  rcases advance_cases s with ⟨hc, ha⟩ | ⟨hc, hr, ha⟩ | ⟨hc, hr, ha⟩ <;> rw [ha]
  · rw [advance_in_row (h.col ▸ hc)]
    exact { h with col := by simp [h.col] }
  · rw [advance_row_end (by simp [h.col, hc]) (h.row ▸ hr)]
    exact { h with carry := hnext, row := by simp [h.row], col := rfl }
  · rw [advance_frame_end (by simp [h.col, hc]) (by simp [h.row, hr])]
    exact { h with carry := hnext }

theorem rowEntry (h : SameInputs s s') : SameInputs (rowEntry s) (rowEntry s') := by
  by_cases hc : s.col = 0
  · rw [rowEntry_of_col_zero hc, rowEntry_of_col_zero (h.col.trans hc)]
    exact sameInputs_rowStart h.carry h.row h.col h.showCtrl h.flashVisible h.font h.icon
  · rw [rowEntry_of_col_ne_zero hc, rowEntry_of_col_ne_zero (h.col.symm ▸ hc)]
    exact h

theorem finishCell (h : SameInputs s s') (c : Code) (actual : Option Code) :
    SameInputs (finishCell c actual s) (finishCell c actual s') := by
  have hrecord : recordGraphic c s'.rs = recordGraphic c s.rs := by rw [h.rs]
  exact ((h.writeRowState hrecord).drawCell _ _).advance

end SameInputs

/-! ## What a cell shows is a function of what its step reads -/

section Glyphs

variable {font font' : Memory} (hfont : ∀ a < 3456, memRead font' a = memRead font a)
include hfont

theorem literal_congr (c : Code) {py : Nat} (hy : py < 18) (px : Nat) : literal font' c py px = literal font c py px := by
  have hlt := fontAddr_lt c hy
  simp only [literal, fontC, fontD, hfont _ hlt, hfont _ (Nat.lt_of_succ_lt hlt)]

theorem standardGlyph_congr (sep : Config.Separators) (c : Code) (m : RenderMode) {py : Nat} (hy : py < 18) (px : Nat) :
    standardGlyph sep font' c m py px = standardGlyph sep font c m py px := by
  have hliteral := literal_congr hfont c hy px
  cases hc : c.getLsbD 5 with
  | false => rwa [standardGlyph_of_text sep font' hc, standardGlyph_of_text sep font hc]
  | true =>
    cases m with
    | normal => exact hliteral
    | graphics => rw [standardGlyph_graphics sep font' hc, standardGlyph_graphics sep font hc]
    | thinGraphics => rw [standardGlyph_thinGraphics sep font' hc, standardGlyph_thinGraphics sep font hc]

end Glyphs

theorem glyphBit_congr {s s' : State} (h : SameInputs s s') (c : Code) {py : Nat} (hy : py < 18) (px : Nat) :
    glyphBit s' c py px = glyphBit s c py px := by
  unfold glyphBit
  rw [h.rs, h.bottomHalf]
  cases heightSlot s.rs.doubleHeight s.bottomHalf with
  | none => rfl
  | some slot => exact standardGlyph_congr h.font _ c _ (slotRow_lt slot hy) px

theorem cellPixel_congr {s s' : State} (h : SameInputs s s') (c : Code) {actual : Option Code}
    (hk : ∀ k, actual = some k → k.toNat < 32) {py px : Nat} (hy : py < 18) (hx : px < 12) :
    cellPixel s' c actual py px = cellPixel s c actual py px := by
  unfold cellPixel
  rw [glyphBit_congr h c hy, h.rs, h.showCtrl]
  cases actual with
  | none => rfl
  | some k =>
    have hicon : iconBit s'.icon k py px = iconBit s.icon k py px := h.icon _ (iconAddr_lt (hk k rfl) hy hx)
    simp only [hicon]

/-- A location of a cell is a pixel of it. -/
theorem InCell.exists_pixel {s : State} {X Y : Nat} (h : InCell s X Y) :
    ∃ py < 18, ∃ px < 12, Y = 18 * s.row.val + py ∧ X = 12 * s.col.val + px := by
  obtain ⟨hleft, hright, htop, hbottom⟩ := h
  exact ⟨Y - 18 * s.row.val, by omega, X - 12 * s.col.val, by omega, by omega, by omega⟩

theorem finishCell_rasterAt_congr {s s' : State} (h : SameInputs s s') (c : Code) {actual : Option Code}
    (hk : ∀ k, actual = some k → k.toNat < 32) {X Y : Nat} (hin : InCell s X Y) :
    (finishCell c actual s').rasterAt X Y = (finishCell c actual s).rasterAt X Y := by
  obtain ⟨py, hy, px, hx, rfl, rfl⟩ := hin.exists_pixel
  have hinside' := rasterAt_finishCell_inside c actual s' hy hx
  rw [h.row, h.col] at hinside'
  rw [hinside', rasterAt_finishCell_inside c actual s hy hx, h.rs, h.flashVisible, cellPixel_congr h _ hk hy hx]

/-- One instruction on two states that show it the same. -/
theorem exec_congr {s s' t t' : State} (h : SameInputs s s') {i : Instr} (he : exec i s = .next t)
    (he' : exec i s' = .next t') :
    SameInputs t t' ∧ ∀ X Y, InCell s X Y → t'.rasterAt X Y = t.rasterAt X Y := by
  obtain ⟨code, actual, effect, hk, hfin⟩ := exec_finishes i
  cases (hfin s).symm.trans he
  cases (hfin s').symm.trans he'
  have hcode : code s'.bottomHalf s'.rs = code s.bottomHalf s.rs := by rw [h.rs, h.bottomHalf]
  have heffect : effect s'.bottomHalf s'.rs = effect s.bottomHalf s.rs := by rw [h.rs, h.bottomHalf]
  have hnew := h.writeRowState heffect
  rw [hcode]
  exact ⟨hnew.finishCell _ actual, fun X Y hin => finishCell_rasterAt_congr hnew _ hk hin⟩

/-- One step of two frames that show it the same cell with the same byte. -/
theorem step_congr {s s' t t' : State} (ho : s.opstate = .rendering) (ho' : s'.opstate = .rendering)
    (h : SameInputs (rowEntry s) (rowEntry s')) (hbyte : fetchByte s' = fetchByte s) (hs : step s = .next t)
    (hs' : step s' = .next t') : SameInputs t t' ∧ ∀ X Y, InCell s X Y → t'.rasterAt X Y = t.rasterAt X Y := by
  obtain ⟨i, hi⟩ := decodeByte_total (fetchByte s)
  rw [step_of_decodeByte ho hi] at hs
  rw [step_of_decodeByte ho' (hbyte ▸ hi)] at hs'
  simpa [InCell] using exec_congr h hs hs'

/-! ## Two runs of the same cells -/

/-- What two frames have in common once they have run `k` cells from cell `p` side by side: what the next cell step
reads, but for PAGE, which each keeps as it was, and the pixels of the cells passed. -/
structure SameSoFar (p : Nat) (page page' : Memory) (k : Nat) (t t' : State) : Prop where
  inputs : SameInputs (rowEntry t) (rowEntry t')
  page : t.page = page
  page' : t'.page = page'
  pixels : ∀ X < 480, ∀ Y, p ≤ pageAddr (Y / 18) (X / 12) → pageAddr (Y / 18) (X / 12) < p + k →
    t'.rasterAt X Y = t.rasterAt X Y

theorem step_keeps_sameSoFar {p k : Nat} {page page' : Memory} {t t' u u' : State} (ho : t.opstate = .rendering)
    (ho' : t'.opstate = .rendering) (hscan : t.scan = p + k) (hbyte : memRead page' (p + k) = memRead page (p + k))
    (h : SameSoFar p page page' k t t') (hs : step t = .next u) (hs' : step t' = .next u') :
    SameSoFar p page page' (k + 1) u u' := by
  have hscan' : t'.scan = t.scan := by simpa using h.inputs.scan
  have hfetch : fetchByte t' = fetchByte t := by
    rw [fetchByte, fetchByte, h.page, h.page', hscan', hscan, hbyte]
  obtain ⟨hinputs, hcell⟩ := step_congr ho ho' h.inputs hfetch hs hs'
  obtain ⟨hpage, -⟩ := step_untouchedByFrame ho hs
  obtain ⟨hpage', -⟩ := step_untouchedByFrame ho' hs'
  refine ⟨hinputs.rowEntry, hpage.trans h.page, hpage'.trans h.page', fun X hX Y hfrom hto => ?_⟩
  by_cases hin : InCell t X Y
  · exact hcell X Y hin
  · have hin' : ¬ InCell t' X Y := by rwa [inCell_iff hX, hscan', ← inCell_iff hX]
    have hne : pageAddr (Y / 18) (X / 12) ≠ p + k := by rwa [inCell_iff hX, hscan] at hin
    rw [step_rasterAt_outside ho hs hin, step_rasterAt_outside ho' hs' hin']
    exact h.pixels X hX Y hfrom (by omega)

/-- A run of cells is a function of what its first step reads and of the bytes of its own cells. -/
theorem run_cells_congr {p n : Nat} {s s' : State} (hs : AtPosition p s) (hs' : AtPosition p s')
    (h : SameInputs (rowEntry s) (rowEntry s')) (hpn : p + n ≤ 1000)
    (hbytes : ∀ k < n, memRead s'.page (p + k) = memRead s.page (p + k)) :
    ∃ t t', RunsTo n s t ∧ RunsTo n s' t' ∧ AtPosition (p + n) t ∧ AtPosition (p + n) t' ∧
      SameSoFar p s.page s'.page n t t' :=
  run_cells_paired hs hs' ⟨h, rfl, rfl, fun _ _ _ _ _ => by omega⟩ hpn
    fun k hk _ _ _ _ ho ho' hscan ht hstep hstep' => step_keeps_sameSoFar ho ho' hscan (hbytes k hk) ht hstep hstep'

theorem rasterAt_of_outside {s : State} {X Y : Nat} (h : ¬ (X < 480 ∧ Y < 450)) : s.rasterAt X Y = none := if_neg h

/-! ## The carried flag (42_cell_pipeline.md R145, 43_control_codes.md R173) -/

theorem controlCell_rs {actual : Code} {effect : Bool → RowState → RowState} {s t : State}
    (h : controlCell actual effect s = .next t) : t.rs = effect s.bottomHalf s.rs := by
  obtain ⟨u, hu, -, hrs⟩ := controlCell_next actual effect s
  cases h.symm.trans hu
  exact hrs

theorem controlCell_keeps_nextDoubleHeight {actual : Code} {effect : Bool → RowState → RowState} {s t : State}
    (h : controlCell actual effect s = .next t)
    (he : (effect s.bottomHalf s.rs).nextDoubleHeight = s.rs.nextDoubleHeight) :
    t.rs.nextDoubleHeight = s.rs.nextDoubleHeight := by
  rw [controlCell_rs h, he]

theorem displayCell_keeps_nextDoubleHeight {code : Code} {s t : State} (h : displayCell code s = .next t) :
    t.rs.nextDoubleHeight = s.rs.nextDoubleHeight := by
  cases h
  rw [finishCell_rs, recordGraphic_nextDoubleHeight]

/-- Only code 13 writes the carried flag. -/
theorem exec_keeps_nextDoubleHeight {i : Instr} (hi : i ≠ .doubleHeight) {s t : State} (h : exec i s = .next t) :
    t.rs.nextDoubleHeight = s.rs.nextDoubleHeight := by
  cases i with
  | doubleHeight => exact absurd rfl hi
  | dispG0 c | dispT c | dispG1 c => exact displayCell_keeps_nextDoubleHeight h
  | _ =>
    simp only [exec, execNop00, execNop0A, execNop0B, execNop0E, execNop0F, execNop10, execNop18, execNop1B,
      execAlphaRed, execAlphaGreen, execAlphaYellow, execAlphaBlue, execAlphaMagenta, execAlphaCyan, execAlphaWhite,
      execGfxRed, execGfxGreen, execGfxYellow, execGfxBlue, execGfxMagenta, execGfxCyan, execGfxWhite, execFlashOn,
      execFlashOff, execNormalHeight, execContiguousGfx, execSeparatedGfx, execBlackBg, execNewBg, execHoldGfx,
      execReleaseGfx] at h
    exact controlCell_keeps_nextDoubleHeight h rfl

theorem exec_doubleHeight_nextDoubleHeight {s t : State} (h : exec .doubleHeight s = .next t) :
    t.rs.nextDoubleHeight = if s.bottomHalf then s.rs.nextDoubleHeight else true := by
  simp only [exec, execDoubleHeight] at h
  rw [controlCell_rs h]

/-- No other instruction has code 13. -/
theorem instrCode_eq_doubleHeight_iff {i : Instr} (hwf : i.wf = true) : instrCode i = 0x0D ↔ i = .doubleHeight := by
  constructor
  · intro hcode
    have hi : decodeByte 0x0D = .ok i := (decodeByte_eq_ok_iff _ i).2 ⟨hwf, hcode⟩
    exact Except.ok.inj (hi.symm.trans ((decodeByte_eq_ok_iff 0x0D .doubleHeight).2 ⟨rfl, rfl⟩))
  · rintro rfl
    rfl

/-- The carried flag after a cell: set before it, or set by a code 13 of a row that is no bottom half. -/
theorem exec_nextDoubleHeight {i : Instr} (hwf : i.wf = true) {s t : State} (h : exec i s = .next t) :
    t.rs.nextDoubleHeight = (s.rs.nextDoubleHeight || (!s.bottomHalf && instrCode i == 0x0D)) := by
  by_cases hi : i = .doubleHeight
  · subst hi
    rw [exec_doubleHeight_nextDoubleHeight h]
    cases s.bottomHalf <;> simp [instrCode]
  · have hcode : instrCode i ≠ 0x0D := fun hc => hi ((instrCode_eq_doubleHeight_iff hwf).1 hc)
    rw [exec_keeps_nextDoubleHeight hi h, beq_eq_false_iff_ne.2 hcode, Bool.and_false, Bool.or_false]

theorem exec_col_in_row {i : Instr} {s t : State} (h : exec i s = .next t) (hc : s.col.val < 39) :
    t.col.val = s.col.val + 1 := by
  obtain ⟨u, hu, hrow, -⟩ := everyCodeAdvancesTheScan i s
  cases hu.symm.trans h
  obtain ⟨-, hcol, -⟩ := hrow hc
  exact hcol

theorem exec_carry_at_row_end {i : Instr} {s t : State} (h : exec i s = .next t) (hc : s.col.val = 39) :
    t.carry = t.rs.nextDoubleHeight := by
  obtain ⟨rs, img, -, he⟩ := exec_eq_advance i s
  cases he.symm.trans h
  rw [advance_rs]
  exact advance_carry_at_row_end (s := drawCell img { s with rs := rs }) hc

/-! ## The carry of a row (42_cell_pipeline.md R145) -/

/-- No carry came in and one of the first `k` bytes of the row is a code 13. -/
def pairStarted (s : State) (k : Nat) : Bool :=
  !s.carry && (List.range k).any fun c => (pageByte s s.row.val c).setWidth 7 == 0x0D#7

theorem pairStarted_succ (s : State) (k : Nat) :
    pairStarted s (k + 1) = (pairStarted s k || (!s.carry && codeOf (pageByte s s.row.val k) == 0x0D)) := by
  simp [pairStarted, List.range_succ, Bool.and_or_distrib_left, codeOf]

/-- What a frame holds after `k` cells of the row that begins at `s`: what the next cell finds of the latch and of the
carried flag, and at the row's end the carry. -/
structure RowSoFar (s : State) (k : Nat) (t : State) : Prop where
  page : t.page = s.page
  latch : k < 40 → (rowEntry t).bottomHalf = s.carry
  flag : k < 40 → (rowEntry t).rs.nextDoubleHeight = pairStarted s k
  carry : k = 40 → t.carry = pairStarted s k

theorem rowSoFar_at_start {s : State} (hc : s.col.val = 0) : RowSoFar s 0 s where
  page := rfl
  latch _ := by rw [rowEntry_of_col_zero (Fin.ext hc), rowStart_bottomHalf]
  flag _ := by simp [rowEntry_of_col_zero (Fin.ext hc), rowStartState, pairStarted]
  carry h := nomatch h

theorem step_keeps_rowSoFar {s t u : State} {k : Nat} (hk : k < 40) (ho : t.opstate = .rendering)
    (hscan : t.scan = 40 * s.row.val + k) (ht : RowSoFar s k t) (h : step t = .next u) : RowSoFar s (k + 1) u := by
  obtain ⟨i, hwf, hcode, hstep⟩ := step_runs_code ho
  have he := hstep.symm.trans h
  obtain ⟨hpage, -⟩ := step_untouchedByFrame ho h
  obtain ⟨-, -, -, hlatch, -⟩ := exec_untouched he
  have hbyte : fetchByte t = pageByte s s.row.val k := by rw [fetchByte, hscan, ht.page, pageByte]
  have hflag : u.rs.nextDoubleHeight = pairStarted s (k + 1) := by
    rw [exec_nextDoubleHeight hwf he, ht.flag hk, ht.latch hk, hcode, hbyte, pairStarted_succ]
  have hcol : (rowEntry t).col.val = k := by
    rw [scan_eq] at hscan
    rw [rowEntry_col]
    omega
  have hmid : k + 1 < 40 → rowEntry u = u := fun hlt => by
    have hnext := exec_col_in_row he (by omega)
    exact rowEntry_of_col_ne_zero fun h0 => by simp [h0] at hnext
  exact
    { page := hpage.trans ht.page
      latch := fun hlt => by rw [hmid hlt, hlatch, ht.latch hk]
      flag := fun hlt => by rw [hmid hlt, hflag]
      carry := fun hend => by rw [exec_carry_at_row_end he (by omega), hflag] }

/-! ## A page of spaces (42_cell_pipeline.md R149) -/

theorem codeOf_spaceByte {b : Byte} (h : b = 0x20 ∨ b = 0xA0) : codeOf b = 32 := by
  rcases h with rfl | rfl <;> rfl

/-- RowState, latch and carry stand as at the start of a row without a carry. -/
structure PlainRow (s : State) : Prop where
  rs : s.rs = rowStartState false
  bottomHalf : s.bottomHalf = false
  carry : s.carry = false

theorem PlainRow.rowEntry_eq {s : State} (h : PlainRow s) : rowEntry s = s := by
  have hstart : rowStart s = s := by
    calc rowStart s = { s with bottomHalf := false, rs := rowStartState false } := by rw [rowStart, h.carry]
      _ = s := by rw [← h.rs, ← h.bottomHalf]
  rw [rowEntry, hstart, ite_self]

/-- A cell of a plain row leaves it plain: text is not recorded, and no pair has started. -/
theorem PlainRow.finishCell {s : State} (h : PlainRow s) (c : Code) (actual : Option Code) :
    PlainRow (finishCell c actual s) := by
  have hrecord : recordGraphic c s.rs = rowStartState false := by
    rw [recordGraphic_of_text (by rw [h.rs]; rfl), h.rs]
  refine ⟨(finishCell_rs c actual s).trans hrecord, (advance_bottomHalf _).trans h.bottomHalf, ?_⟩
  rcases advance_carry_cases (drawCell _ { s with rs := recordGraphic c s.rs }) with hcarry | hcarry
  · exact hcarry.trans h.carry
  · exact hcarry.trans (congrArg RowState.nextDoubleHeight hrecord)

/-- A plain row shows a space as the literal space glyph, all background. -/
theorem PlainRow.cellPixel_space {s : State} (h : PlainRow s) (hfont : FontSpaceBlank s.font) {py px : Nat}
    (hy : py < 18) (hx : px < 12) : cellPixel s (flashedCode s.rs s.flashVisible 32) none py px = 0 := by
  have hflash : flashedCode s.rs s.flashVisible 32 = 32 := flashedCode_of_shown (.inl (by rw [h.rs]; rfl)) 32
  have hblank : glyphBit s 32 py px = false := by
    simp only [glyphBit, h.rs, h.bottomHalf]
    exact (literal_space_blank_iff s.font).2 hfont py hy px hx
  rw [hflash, cellPixel, hblank, h.rs]
  rfl

/-- The code of a space is no control code, so a step over a space is a display cell. -/
theorem step_of_space {s : State} (ho : s.opstate = .rendering) (hplain : PlainRow s)
    (hbyte : codeOf (fetchByte s) = 32) : step s = .next (finishCell 32 none s) := by
  obtain ⟨i, -, hcode, hstep⟩ := step_runs_code ho
  rw [hbyte] at hcode
  rw [hstep, hplain.rowEntry_eq, exec_of_bit5 (by rw [hcode]; decide), hcode, displayCell_next]

/-- What a frame over a page of spaces keeps: a plain row, PAGE and FONT as at its start, no colour but black drawn. -/
structure BlackSoFar (s t : State) : Prop where
  plain : PlainRow t
  page : t.page = s.page
  font : t.font = s.font
  black : ∀ X Y, ∀ c ∈ t.rasterAt X Y, c = 0

theorem startFrame_blackSoFar (w h : Nat) (sc fv : Bool) (s : State) : BlackSoFar s (startFrame w h sc fv s) where
  plain := ⟨rfl, rfl, rfl⟩
  page := rfl
  font := rfl
  black X Y := by simp [State.rasterAt]

theorem step_keeps_blackSoFar {s t u : State} (hfont : FontSpaceBlank s.font)
    (hpage : ∀ a < 1000, memRead s.page a = 0x20 ∨ memRead s.page a = 0xA0) (ho : t.opstate = .rendering)
    (ht : BlackSoFar s t) (h : step t = .next u) : BlackSoFar s u := by
  have hspace : codeOf (fetchByte t) = 32 := codeOf_spaceByte (by rw [fetchByte, ht.page]; exact hpage _ (scan_lt t))
  obtain ⟨hpageu, hfontu, -⟩ := step_untouchedByFrame ho h
  obtain rfl : finishCell 32 none t = u := Host.Outcome.next.inj ((step_of_space ho ht.plain hspace).symm.trans h)
  refine ⟨ht.plain.finishCell 32 none, hpageu.trans ht.page, hfontu.trans ht.font, fun X Y => ?_⟩
  by_cases hin : InCell t X Y
  · obtain ⟨py, hy, px, hx, rfl, rfl⟩ := hin.exists_pixel
    rw [rasterAt_finishCell_inside 32 none t hy hx, ht.plain.cellPixel_space (ht.font.symm ▸ hfont) hy hx]
    simp
  · rw [step_rasterAt_outside ho h hin]
    exact ht.black X Y

/-! ## The statements of 42_cell_pipeline.md -/

/-- Settles O36: by induction over the row, the carried flag is `pairStarted` of the cells passed. -/
theorem carryOfARow : Obligations.CarryOfARow := by
  intro s ho hc
  have hscan := scan_of_col_zero hc
  obtain ⟨t, hrun, -, ht⟩ :=
    run_cells (I := RowSoFar s) (n := 40) (atPosition_of_rendering ho) (rowSoFar_at_start hc) (by omega)
      fun k hk _ _ hot hpos hrow hstep => step_keeps_rowSoFar hk hot (hscan ▸ hpos) hrow hstep
  exact ⟨t, hrun, ht.carry rfl⟩

/-- Settles O37: the row is a run of forty cells whose first step begins with the row start. -/
theorem rowDependsOnItsOwnBytes : Obligations.RowDependsOnItsOwnBytes := by
  intro s s' ho ho' hc hc' hrow hcarry hsc hfv hbytes hfont hicon
  have hscan := scan_of_col_zero hc
  have hscan' : s'.scan = s.scan := by rw [scan_of_col_zero hc', hrow, hscan]
  have hinputs : SameInputs (rowEntry s) (rowEntry s') := by
    rw [rowEntry_of_col_zero (Fin.ext hc), rowEntry_of_col_zero (Fin.ext hc')]
    exact sameInputs_rowStart hcarry hrow (Fin.ext (hc'.trans hc.symm)) hsc hfv hfont hicon
  obtain ⟨t, t', hrun, hrun', -, -, hsame⟩ :=
    run_cells_congr (atPosition_of_rendering ho) (hscan' ▸ atPosition_of_rendering ho') hinputs (n := 40)
      (by omega) (hscan ▸ hbytes)
  refine ⟨t, t', hrun, hrun', by simpa using hsame.inputs.carry, fun X hX Y htop hbottom => ?_⟩
  exact hsame.pixels X hX Y (by rw [pageAddr]; omega) (by rw [pageAddr]; omega)

/-- Settles O40: the frame is a run of a thousand cells from a state that RENDER has written anew. -/
theorem rasterIsAFunctionOfItsInputs : Obligations.RasterIsAFunctionOfItsInputs := by
  intro s s' sc fv ho ho' hpage hfont hicon
  obtain ⟨t, t', hrun, hrun', hpos, hpos', hsame⟩ :=
    run_cells_congr (startFrame_atPosition 40 25 sc fv s) (startFrame_atPosition 40 25 sc fv s')
      (sameInputs_startFrame hfont hicon 40 25 sc fv).rowEntry (n := 1000) (by omega)
      fun k hk => hpage (0 + k) (by omega)
  refine ⟨_, _, t, t', hostRequest_render ho sc fv, hostRequest_render ho' sc fv, hrun, hrun', hpos.2 rfl,
    hpos'.2 rfl, fun X Y => ?_⟩
  by_cases hXY : X < 480 ∧ Y < 450
  · exact hsame.pixels X hXY.1 Y (Nat.zero_le _) (by rw [pageAddr]; omega)
  · rw [rasterAt_of_outside hXY, rasterAt_of_outside hXY]

/-- Settles O41: a frame of spaces draws only black, and a completed frame has drawn every pixel. -/
theorem allSpacePageIsBlack : Obligations.AllSpacePageIsBlack := by
  intro s sc fv ho hfont hpage
  obtain ⟨t, hrun, hready, ht⟩ :=
    frame_completes (fun _ _ => step_keeps_blackSoFar hfont hpage) (startFrame_opstate 40 25 sc fv s)
      (startFrame_blackSoFar 40 25 sc fv s) rfl
  obtain ⟨t', hrun', -, hwritten⟩ := frameWritesEveryPixel (startFrame 40 25 sc fv s) rfl rfl rfl
  cases hrun.symm.trans hrun'
  refine ⟨_, t, hostRequest_render ho sc fv, hrun, hready, fun X hX Y hY => ?_⟩
  obtain ⟨c, hc⟩ := Option.isSome_iff_exists.1 (hwritten X hX Y hY)
  rw [hc, ht.black X Y c hc]

/-- Settles O20: the cell's pixels are drawn under the RowState that the code leaves, whose height slot is none. -/
theorem suppressedCellIsBackground : Obligations.SuppressedCellIsBackground := by
  intro i s t hbot hsc h hdh py hy px hx
  obtain ⟨code, actual, effect, -, hfin⟩ := exec_finishes i
  cases (hfin s).symm.trans h
  rw [finishCell_rs, recordGraphic_doubleHeight] at hdh
  exact rasterAt_finishCell_suppressed (s := { s with rs := effect s.bottomHalf s.rs }) hbot hdh hsc _ actual hy hx

/-- Settles O22: the flash substitution chooses the image only, and the record comes before it (R148). -/
theorem flashVisibleChangesPixelsOnly : Obligations.FlashVisibleChangesPixelsOnly := by
  intro i s b
  obtain ⟨code, actual, effect, -, hfin⟩ := exec_finishes i
  refine ⟨_, _, hfin s, hfin _, ?_⟩
  simp only [finishCell, advance_flashVisible, advance_raster, ← advance_with_pixels]
  rfl

/-- Settles O4: the byte of the cell is the one that the step fetches. -/
theorem cellStepRunsDecodedInstruction : Obligations.CellStepRunsDecodedInstruction := by
  intro s i ho _ hdec
  have hstep : step s = exec i (rowEntry s) := step_of_decodeByte ho (decodeByte_of_decode hdec)
  refine ⟨fun hc => ?_, fun hc => ?_⟩
  · rw [hstep, rowEntry_of_col_ne_zero fun h => hc (congrArg Fin.val h)]
  · rw [hstep, rowEntry_of_col_zero (Fin.ext hc)]

/-- Settles O46: the accepted request is `startFrame`. -/
theorem renderStartsAFrame : Obligations.RenderStartsAFrame := fun s sc fv ho =>
  ⟨startFrame 40 25 sc fv s, hostRequest_render ho sc fv, rfl, rfl, rfl, rfl, rfl, rfl, rfl, rfl, rfl, rfl, rfl, rfl, rfl,
    rfl⟩

end Sys2Proof.Machine

/-! The control codes (43_control_codes.md): a control cell in the closed form of the statements (its glyph bit, its
icon overlay, its pixels), and what each of the 32 codes does with it. -/

namespace Sys2Proof.Machine

/-! ## The glyph bit of a cell (44_display_codes.md R204) -/

/-- A literal glyph is read from the font record of its code (40_glyphset.md R91, R93, R94). -/
theorem literal_apply (font : Memory) (c : Code) (y px : Nat) :
    literal font c y px =
      if c.toNat < 32 then false
      else fontRow (memRead font (36 * (c.toNat - 32) + 2 * y)) (memRead font (36 * (c.toNat - 32) + 2 * y + 1)) px :=
  rfl

theorem mosaic_apply (c : Code) (y px : Nat) :
    mosaic c y px = c.getLsbD ([0, 1, 2, 3, 4, 6].getD (px / 6 + 2 * (y / 6)) 0) := rfl

/-- In the mode that the two graphics flags select, a mosaic needs graphics on and bit 5 of the code, and the separated
flag cuts the separators out of it (42_cell_pipeline.md R136, 40_glyphset.md R98). -/
theorem standardGlyph_renderMode (sep : Config.Separators) (font : Memory) (c : Code) (graphicsOn separated : Bool)
    (y px : Nat) :
    standardGlyph sep font c (renderMode graphicsOn separated) y px =
      if graphicsOn && c.getLsbD 5 then
        if separated && (sep.cols px || sep.rows y) then false else mosaic c y px
      else literal font c y px := by
  cases hc : c.getLsbD 5 with
  | false => simp [standardGlyph_of_text sep font hc]
  | true =>
    cases graphicsOn with
    | false => simp [renderMode, standardGlyph]
    | true =>
      cases separated with
      | false => simp [renderMode, standardGlyph_graphics sep font hc]
      | true => simp [renderMode, standardGlyph_thinGraphics sep font hc, thin]

/-- The glyph bit of a cell after the flash substitution is the bit that the statements ask for: the latch and the
active flag pick the row of the Standard bitmap, or suppress the cell (42_cell_pipeline.md R135, R138). -/
theorem glyphBit_flashedCode (s : State) (code : Code) (py px : Nat) :
    glyphBit s (flashedCode s.rs s.flashVisible code) py px =
      shownBit s.font s.rs s.bottomHalf s.flashVisible code py px := by
  simp only [shownBit, ← literal_apply, ← mosaic_apply, glyphBit, flashedCode, Config.spaceCode]
  cases hdh : s.rs.doubleHeight <;> cases hbot : s.bottomHalf
  case false.true => rfl
  all_goals exact standardGlyph_renderMode Config.separators s.font _ _ _ _ px

/-! ## The icon overlay (42_cell_pipeline.md R140, R142) -/

/-- The overlay of a stencilled pixel, where `show_ctrl` asks for one, in closed form. -/
theorem overlayPixel_stencilled (g : Bool) (fg bg : Colour) (showCtrl k : Bool) :
    (if showCtrl then overlayPixel fg bg k (if g then fg else bg) else if g then fg else bg) =
      pixelClosed g fg bg showCtrl k := by
  cases showCtrl with
  | false => rfl
  | true =>
    cases k with
    | true => simp [overlayPixel, pixelClosed]
    | false =>
      by_cases hcol : fg = bg
      · simp [overlayPixel, pixelClosed, hcol, black]
      · cases g <;> simp [overlayPixel, pixelClosed, hcol, Ne.symm hcol]

/-! ## A control cell (43_control_codes.md, common part) -/

/-- A control cell's final pixels are those that the statements ask for under its RowState. -/
theorem cellPixel_control (s : State) (n : Code) (py px : Nat) :
    cellPixel s (flashedCode s.rs s.flashVisible (substitutedCode s.rs)) (some n) py px =
      controlPixel s s.rs n py px := by
  rw [cellPixel, glyphBit_flashedCode]
  exact overlayPixel_stencilled _ _ _ _ _

/-- A cell step pictures its own cell. -/
theorem finishCell_pictured (code : Code) (actual : Option Code) (s : State) :
    Pictured s (finishCell code actual s) (cellPixel s (flashedCode s.rs s.flashVisible code) actual) :=
  ⟨fun _ hy _ hx => rasterAt_finishCell_inside code actual s hy hx,
    fun _ _ hout => rasterAt_finishCell_outside code actual s hout⟩

/-- A control cell is pictured under the RowState that the code leaves (42_cell_pipeline.md R134). -/
theorem finishCell_control_pictured (s : State) (rs : RowState) (n : Code) :
    Pictured s (finishCell (substitutedCode rs) (some n) { s with rs := rs }) (controlPixel s rs n) := by
  have hpixels : cellPixel { s with rs := rs } (flashedCode rs s.flashVisible (substitutedCode rs)) (some n) =
      controlPixel s rs n := funext₂ (cellPixel_control { s with rs := rs } n)
  rw [← hpixels]
  exact finishCell_pictured (substitutedCode rs) (some n) { s with rs := rs }

/-! ## From the arm of an instruction to what its code does -/

/-- Adding `0x80` changes bit 7 only, which is no part of the code (30_encoding.md R78). -/
@[simp] theorem codeOf_add_bit7 (n : Byte) : codeOf (0x80 + n) = codeOf n := by
  simp [codeOf, BitVec.setWidth_add]

/-- A code whose arm is a control cell of its own number with this effect does what the statements ask of it. -/
theorem controlCodeDoes_of_exec {n : Byte} {i : Instr} {effect : Bool → RowState → RowState} (hwf : i.wf = true)
    (hcode : instrCode i = codeOf n) (hexec : ∀ s, exec i s = controlCell (codeOf n) effect s) :
    ControlCodeDoes n i effect := by
  refine ⟨(decodeByte_eq_ok_iff n i).2 ⟨hwf, hcode⟩,
    (decodeByte_eq_ok_iff _ i).2 ⟨hwf, hcode.trans (codeOf_add_bit7 n).symm⟩, fun s => ?_⟩
  obtain ⟨t, hcell, ht, hrs⟩ := controlCell_next (codeOf n) effect s
  have hnext : exec i s = .next t := (hexec s).trans hcell
  refine ⟨t, hnext, hrs, ?_, exec_untouched hnext⟩
  rw [hrs, ht]
  exact finishCell_control_pictured s _ (codeOf n)

/-- Code 13 sets the carried flag unless the row is a bottom half (43_control_codes.md R173). -/
theorem exec_doubleHeight (s : State) :
    exec .doubleHeight s = controlCell 0x0D#7
      (fun bottomHalf rs =>
        { rs with doubleHeight := true, nextDoubleHeight := rs.nextDoubleHeight || !bottomHalf }) s := by
  have hflag : ∀ b next : Bool, (if b then next else true) = (next || !b) := by decide
  simp only [exec, execDoubleHeight, hflag]

/-! ## The statements of 43_control_codes.md -/

/-- Settles O9: each arm is a control cell whose effect is the identity. -/
theorem noOpCodesKeepRowState : Obligations.NoOpCodesKeepRowState := by
  refine ⟨?_, ?_, ?_, ?_, ?_, ?_, ?_, ?_⟩ <;> exact controlCodeDoes_of_exec rfl rfl fun _ => rfl

/-- Settles O10: each arm is a control cell whose `colourEffect` reads the colour from bits 0 to 2 of the code, and
graphics off from its bit 4. -/
theorem alphaCodesSetForeground : Obligations.AlphaCodesSetForeground := by
  refine ⟨?_, ?_, ?_, ?_, ?_, ?_, ?_⟩ <;> exact controlCodeDoes_of_exec rfl rfl fun _ => rfl

/-- Settles O11: as for the alpha colours, with bit 4 of the code set. -/
theorem graphicsCodesSetForeground : Obligations.GraphicsCodesSetForeground := by
  refine ⟨?_, ?_, ?_, ?_, ?_, ?_, ?_⟩ <;> exact controlCodeDoes_of_exec rfl rfl fun _ => rfl

/-- Settles O12: both arms are control cells that write the flash flag. -/
theorem flashCodesWriteFlash : Obligations.FlashCodesWriteFlash :=
  ⟨controlCodeDoes_of_exec rfl rfl fun _ => rfl, controlCodeDoes_of_exec rfl rfl fun _ => rfl⟩

/-- Settles O13: code 12 writes the active flag alone, code 13 also the carried one outside a bottom half. -/
theorem heightCodesWriteActiveFlag : Obligations.HeightCodesWriteActiveFlag :=
  ⟨controlCodeDoes_of_exec rfl rfl fun _ => rfl, controlCodeDoes_of_exec rfl rfl exec_doubleHeight⟩

/-- Settles O14: both arms are control cells that write the separated flag. -/
theorem separationCodesWriteSeparated : Obligations.SeparationCodesWriteSeparated :=
  ⟨controlCodeDoes_of_exec rfl rfl fun _ => rfl, controlCodeDoes_of_exec rfl rfl fun _ => rfl⟩

/-- Settles O15: both arms are control cells that write the background, code 29 from the foreground it finds. -/
theorem backgroundCodesWriteBackground : Obligations.BackgroundCodesWriteBackground :=
  ⟨controlCodeDoes_of_exec rfl rfl fun _ => rfl, controlCodeDoes_of_exec rfl rfl fun _ => rfl⟩

/-- Settles O16: both arms are control cells that write the hold flag. -/
theorem holdCodesWriteHold : Obligations.HoldCodesWriteHold :=
  ⟨controlCodeDoes_of_exec rfl rfl fun _ => rfl, controlCodeDoes_of_exec rfl rfl fun _ => rfl⟩

end Sys2Proof.Machine

/-! The display codes (44_display_codes.md): the class of a code by its number, the record of step 5 in closed form, and
what each of the 96 codes does. -/

namespace Sys2Proof.Machine

/-! ## The class of a code (30_encoding.md R71) -/

theorem toNat_classOf (c : Code) : (classOf c).toNat = c.toNat / 32 := by
  rw [classOf, BitVec.extractLsb'_toNat, Nat.shiftRight_eq_div_pow]
  omega

/-- The 32 codes of a class are consecutive. -/
theorem classOf_eq_of_range {c : Code} {k : BitVec 2} (hlo : 32 * k.toNat ≤ c.toNat)
    (hhi : c.toNat < 32 * k.toNat + 32) : classOf c = k := by
  refine BitVec.eq_of_toNat_eq ?_
  rw [toNat_classOf]
  omega

/-- The marker of a graphics-capable code is the low bit of its class (R74). -/
theorem graphicsCapable_eq_classOf (c : Code) : graphicsCapable c = (classOf c).getLsbD 0 := by
  simp [graphicsCapable, classOf]

/-! ## A display cell (44_display_codes.md R200) -/

/-- Step 5 writes the record only (42_cell_pipeline.md R137). -/
theorem recordGraphic_eq (code : Code) (rs : RowState) :
    recordGraphic code rs =
      { rs with lastGraphicCode := if rs.graphicsOn && graphicsCapable code then code else rs.lastGraphicCode } := by
  unfold recordGraphic
  split <;> rfl

/-- A display cell's final pixels are those that the statements ask for, under the RowState that the cell found. -/
theorem cellPixel_display (s : State) (c : Code) (py px : Nat) :
    cellPixel s (flashedCode s.rs s.flashVisible c) none py px = displayPixel s c py px := by
  rw [cellPixel, glyphBit_flashedCode, displayPixel]

theorem finishCell_display_pictured (c : Code) (s : State) : Pictured s (finishCell c none s) (displayPixel s c) := by
  have hpixels : cellPixel s (flashedCode s.rs s.flashVisible c) none = displayPixel s c :=
    funext₂ (cellPixel_display s c)
  rw [← hpixels]
  exact finishCell_pictured c none s

/-- A well-formed instruction whose arm is the display cell of its own code does what the statements ask of a display
code; what it records depends on the marker of the code. -/
theorem displayCodeDoes_of_exec {c : Code} {i : Instr} (hwf : i.wf = true) (hcode : instrCode i = c)
    (hexec : ∀ s, exec i s = displayCell c s) :
    DisplayCodeDoes c i (fun rs => if rs.graphicsOn && graphicsCapable c then c else rs.lastGraphicCode) := by
  have hlow : codeOf (c.setWidth 8) = c := codeOf_setWidth c
  refine ⟨(decodeByte_eq_ok_iff _ i).2 ⟨hwf, hcode.trans hlow.symm⟩,
    (decodeByte_eq_ok_iff _ i).2 ⟨hwf, hcode.trans ((codeOf_add_bit7 _).trans hlow).symm⟩, fun s => ?_⟩
  have hnext : exec i s = .next (finishCell c none s) := (hexec s).trans (displayCell_next c s)
  refine ⟨finishCell c none s, hnext, ?_, finishCell_display_pictured c s, exec_untouched hnext⟩
  rw [finishCell_rs, recordGraphic_eq]

/-- In a class whose low bit is set, a display code is recorded in graphics mode. -/
theorem displayCodeDoes_recorded {c : Code} {i : Instr} (hwf : i.wf = true) (hcode : instrCode i = c)
    (hexec : ∀ s, exec i s = displayCell c s) (hclass : (classOf c).getLsbD 0 = true) :
    DisplayCodeDoes c i (fun rs => if rs.graphicsOn then c else rs.lastGraphicCode) := by
  have hdoes := displayCodeDoes_of_exec hwf hcode hexec
  simpa only [graphicsCapable_eq_classOf, hclass, Bool.and_true] using hdoes

/-- In a class whose low bit is clear, a display code is never recorded. -/
theorem displayCodeDoes_unrecorded {c : Code} {i : Instr} (hwf : i.wf = true) (hcode : instrCode i = c)
    (hexec : ∀ s, exec i s = displayCell c s) (hclass : (classOf c).getLsbD 0 = false) :
    DisplayCodeDoes c i (fun rs => rs.lastGraphicCode) := by
  have hdoes := displayCodeDoes_of_exec hwf hcode hexec
  simpa only [graphicsCapable_eq_classOf, hclass, Bool.and_false, Bool.false_eq_true, if_false] using hdoes

/-! ## The statements of 44_display_codes.md -/

/-- Settles O17: the codes 32 to 63 are the class `01`, whose low bit is set. -/
theorem dispG0DrawsAndRecords : Obligations.DispG0DrawsAndRecords := by
  intro c hlo hhi
  have hclass : classOf c = 0b01 := classOf_eq_of_range hlo (Nat.lt_succ_of_le hhi)
  exact displayCodeDoes_recorded (beq_iff_eq.2 hclass) rfl (fun _ => rfl) (by rw [hclass]; rfl)

/-- Settles O18: the codes 64 to 95 are the class `10`, whose low bit is clear. -/
theorem dispTDrawsAndKeepsRecord : Obligations.DispTDrawsAndKeepsRecord := by
  intro c hlo hhi
  have hclass : classOf c = 0b10 := classOf_eq_of_range hlo (Nat.lt_succ_of_le hhi)
  exact displayCodeDoes_unrecorded (beq_iff_eq.2 hclass) rfl (fun _ => rfl) (by rw [hclass]; rfl)

/-- Settles O19: the codes from 96 on are the class `11`, whose low bit is set. -/
theorem dispG1DrawsAndRecords : Obligations.DispG1DrawsAndRecords := by
  intro c hlo
  have hclass : classOf c = 0b11 := classOf_eq_of_range hlo c.isLt
  exact displayCodeDoes_recorded (beq_iff_eq.2 hclass) rfl (fun _ => rfl) (by rw [hclass]; rfl)

end Sys2Proof.Machine

/-! The host's operations (45_host_operations.md): the host's move between frames, the answers of the sixel ports, and the
answers of the geometry queries. -/

namespace Sys2Proof.Machine

/-! ## The host's move (45_host_operations.md R218) -/

theorem hostMove_of_no_request {s : State} (h : s.requests = []) : hostMove s = .next s := by
  simp [hostMove, h]

theorem hostMove_of_requests {s : State} {r : Request} {rest : List Request} (h : s.requests = r :: rest) :
    hostMove s = hostRequest r { s with requests := rest } := by
  simp [hostMove, h]

/-! ## The sixel ports between frames (45_host_operations.md R215, R216) -/

/-- The bit that `get` reads, by the arithmetic of address and index. -/
theorem sixelGet_eq_getLsbD (page : Memory) (x y : Nat) :
    sixelGet page x y = (memRead page (40 * (y / 3) + x / 2)).getLsbD (sixelBit (x % 2 + 2 * (y % 3))) := rfl

theorem hostRequest_sixelGet {s : State} {x y : Nat} (ho : s.opstate ≠ .rendering) (hl : sixelLegal x y = true) :
    hostRequest (.sixelGet x y) s = .next (answer (.bit (sixelGet s.page x y)) s) := by
  rw [hostRequest.eq_def, if_neg ho]
  simp [hostSixelGet, hl]

theorem hostRequest_sixelSet {s : State} {x y : Nat} (ho : s.opstate ≠ .rendering) (hl : sixelLegal x y = true)
    (m : SetMode) :
    hostRequest (.sixelSet x y m) s = .next (answer .done { s with page := sixelSet s.page x y m }) := by
  rw [hostRequest.eq_def, if_neg ho]
  simp [hostSixelSet, hl]

/-! ## The geometry queries between frames (45_host_operations.md R212 to R214) -/

theorem hostRequest_glyphCellPixelSize {s : State} (ho : s.opstate ≠ .rendering) :
    hostRequest .glyphCellPixelSize s = .next (answer (.size 12 18) s) := by
  rw [hostRequest.eq_def, if_neg ho]
  rfl

theorem hostRequest_characterCellPixelBounds {s : State} {x y : Nat} (ho : s.opstate ≠ .rendering)
    (hl : sixelLegal x y = true) :
    hostRequest (.characterCellPixelBounds x y) s = .next (answer (.rect (12 * (x / 2)) (18 * (y / 3)) 12 18) s) := by
  rw [hostRequest.eq_def, if_neg ho]
  simp [hostCellBounds, answerRect, hl, characterCellPixelBounds]

theorem hostRequest_sixelPixelBounds {s : State} {x y : Nat} (ho : s.opstate ≠ .rendering)
    (hl : sixelLegal x y = true) :
    hostRequest (.sixelPixelBounds x y) s = .next (answer (.rect (6 * x) (6 * y) 6 6) s) := by
  rw [hostRequest.eq_def, if_neg ho]
  simp [hostSixelBounds, answerRect, hl, sixelPixelBounds]

/-- The sub-cell's 6 by 6 rectangle lies inside its cell's 12 by 18 rectangle. -/
theorem sixelBounds_inside_cellBounds (x y : Nat) :
    12 * (x / 2) ≤ 6 * x ∧ 6 * x + 6 ≤ 12 * (x / 2) + 12 ∧ 18 * (y / 3) ≤ 6 * y ∧ 6 * y + 6 ≤ 18 * (y / 3) + 18 := by
  omega

/-! ## The statements of 45_host_operations.md -/

/-- Settles O34: the coordinate is legal, so neither port refuses, and `get` reads the bit at the sub-cell's address. -/
theorem sixelPortsAnswer : Obligations.SixelPortsAnswer := by
  intro s x y m ho hx hy
  have hl := sixelLegal_of_le hx hy
  rw [hostRequest_sixelGet ho hl, hostRequest_sixelSet ho hl, sixelGet_eq_getLsbD]
  exact ⟨rfl, rfl⟩

/-- Settles O45: outside a frame a step is the host's move, which the list of requests decides. -/
theorem hostMovesBetweenFrames : Obligations.HostMovesBetweenFrames := by
  intro s ho
  rw [step_of_not_rendering ho]
  exact ⟨hostMove_of_no_request, fun _ _ => hostMove_of_requests⟩

/-- Settles O54: the coordinate is legal, so no query refuses, and a sub-cell is half its cell wide and a third high. -/
theorem geometryQueriesAnswer : Obligations.GeometryQueriesAnswer := by
  intro s x y ho hx hy
  have hl := sixelLegal_of_le hx hy
  exact ⟨hostRequest_glyphCellPixelSize ho, hostRequest_characterCellPixelBounds ho hl,
    hostRequest_sixelPixelBounds ho hl, sixelBounds_inside_cellBounds x y⟩

end Sys2Proof.Machine

/-! The exceptions (60_exceptions.md): which requests are refused and what that changes, the two errors and what each leaves,
what the input `show_ctrl` reaches, and the one step that does not complete. -/

namespace Sys2Proof.Machine

/-! ## Refused requests (60_exceptions.md R240) -/

theorem refuse_eq (s : State) : refuse s = { s with reply := some .refused } := rfl

theorem hostRequest_of_rendering {s : State} (ho : s.opstate = .rendering) (r : Request) :
    hostRequest r s = .next (refuse s) := if_pos ho

/-- A frame in progress refuses every request, so what a refusal rests on is to be shown between frames only. -/
theorem hostRequest_refused {r : Request} {s : State} (h : s.opstate ≠ .rendering → hostRequest r s = .next (refuse s)) :
    hostRequest r s = .next { s with reply := some .refused } := by
  rw [← refuse_eq]
  by_cases ho : s.opstate = .rendering
  · exact hostRequest_of_rendering ho r
  · exact h ho

theorem hostRequest_eq_hostRender {s : State} (ho : s.opstate ≠ .rendering) (w h : Nat) (sc fv : Bool) :
    hostRequest (.render w h sc fv) s = .next (hostRender w h sc fv s) := if_neg ho

theorem hostRender_of_not_ready {s : State} (ho : s.opstate ≠ .ready) (w h : Nat) (sc fv : Bool) :
    hostRender w h sc fv s = refuse s := if_neg ho

theorem hostBuild_of_not_unbuilt {s : State} (ho : s.opstate ≠ .unbuilt) (f : Option (List Byte))
    (ks : Option (List (List (List Bool)))) : hostBuild f ks s = refuse s := if_neg ho

section OutOfRange

variable {s : State} {x y : Nat}

theorem sixelLegal_of_not_le (h : ¬ (x ≤ 79 ∧ y ≤ 74)) : sixelLegal x y = false := decide_eq_false h

theorem hostRequest_sixelGet_illegal (ho : s.opstate ≠ .rendering) (hl : sixelLegal x y = false) :
    hostRequest (.sixelGet x y) s = .next (refuse s) := by
  rw [hostRequest.eq_def, if_neg ho]
  simp [hostSixelGet, hl]

theorem hostRequest_sixelSet_illegal (ho : s.opstate ≠ .rendering) (hl : sixelLegal x y = false) (m : SetMode) :
    hostRequest (.sixelSet x y m) s = .next (refuse s) := by
  rw [hostRequest.eq_def, if_neg ho]
  simp [hostSixelSet, hl]

theorem hostRequest_characterCellPixelBounds_illegal (ho : s.opstate ≠ .rendering) (hl : sixelLegal x y = false) :
    hostRequest (.characterCellPixelBounds x y) s = .next (refuse s) := by
  rw [hostRequest.eq_def, if_neg ho]
  simp [hostCellBounds, answerRect, hl]

theorem hostRequest_sixelPixelBounds_illegal (ho : s.opstate ≠ .rendering) (hl : sixelLegal x y = false) :
    hostRequest (.sixelPixelBounds x y) s = .next (refuse s) := by
  rw [hostRequest.eq_def, if_neg ho]
  simp [hostSixelBounds, answerRect, hl]

end OutOfRange

/-! ## The two errors (60_exceptions.md R231, R232) -/

/-- Only this error moves `opstate`. -/
theorem raiseError_assetLoadError (s : State) : raiseError .assetLoadError s =
    { s with err := .assetLoadError, opstate := .failed, reply := some (.error .assetLoadError) } := rfl

theorem raiseError_invalidInput (s : State) : raiseError .invalidInput s =
    { s with err := .invalidInput, reply := some (.error .invalidInput) } := rfl

/-- A block that is not built yet fails on assets that BUILD does not accept. -/
theorem hostBuild_of_rejected {s : State} (ho : s.opstate = .unbuilt) {font : Option (List Byte)}
    {icons : Option (List (List (List Bool)))} (h : acceptedAssets font icons = none) :
    hostBuild font icons s = raiseError .assetLoadError s := by
  simp [hostBuild, ho, h]

theorem hostRender_of_wrong_dimensions {s : State} (ho : s.opstate = .ready) {w h : Nat} (hd : ¬ (w = 40 ∧ h = 25))
    (sc fv : Bool) : hostRender w h sc fv s = raiseError .invalidInput s := by
  rcases hostRender_cases w h sc fv s with ⟨hn, -⟩ | ⟨-, -, hr⟩ | ⟨-, hd', -⟩
  · exact absurd ho hn
  · exact hr
  · exact absurd hd' hd

/-! ## What `show_ctrl` reaches (60_exceptions.md R244) -/

/-- The scan advance reads neither `show_ctrl` nor RASTER. -/
theorem advance_with_overlay (s : State) (sc : Bool) (raster : List (Nat × CellImage)) :
    advance { s with showCtrl := sc, raster := raster } = { advance s with showCtrl := sc, raster := raster } := by
  unfold advance
  split
  · rfl
  · split <;> rfl

/-- The overlay of step 8 chooses the image only, so the input shows in RASTER alone. -/
theorem finishCell_with_showCtrl (code : Code) (actual : Option Code) (s : State) (b : Bool) :
    ∃ raster, finishCell code actual { s with showCtrl := b } =
      { finishCell code actual s with showCtrl := b, raster := raster } := by
  refine ⟨storePut s.raster s.scan
    (cellImage { s with showCtrl := b } (flashedCode s.rs s.flashVisible code) actual), ?_⟩
  rw [finishCell, finishCell, ← advance_with_overlay]
  rfl

/-! ## Which steps complete (60_exceptions.md R230, R239) -/

theorem step_completes_of_rendering {s : State} (ho : s.opstate = .rendering) : Completes (step s) := by
  rw [step_of_rendering ho]
  exact cellStep_completes s

/-- Between frames the one request that stops is a PAGE write past address 999 (20_memory.md R41). -/
theorem hostRequest_completes_or_faults {s : State} (ho : s.opstate ≠ .rendering) (r : Request) :
    Completes (hostRequest r s) ∨ ∃ addr bs a, r = .pageWrite addr bs ∧ 1000 < addr + bs.length ∧
      hostRequest r s = .fault (.noSuchPageAddress a) := by
  cases r with
  | pageWrite addr bs =>
    rw [hostRequest_pageWrite ho, hostPageWrite]
    by_cases hfits : addr + bs.length ≤ 1000
    · exact .inl ⟨_, if_pos hfits⟩
    · exact .inr ⟨addr, bs, _, rfl, not_le.1 hfits, if_neg hfits⟩
  | build font icons => exact .inl ⟨_, if_neg ho⟩
  | render w h sc fv => exact .inl ⟨_, if_neg ho⟩
  | glyphCellPixelSize => exact .inl ⟨_, if_neg ho⟩
  | characterCellPixelBounds x y => exact .inl ⟨_, if_neg ho⟩
  | sixelPixelBounds x y => exact .inl ⟨_, if_neg ho⟩
  | sixelGet x y => exact .inl ⟨_, if_neg ho⟩
  | sixelSet x y mode => exact .inl ⟨_, if_neg ho⟩

/-! ## The statements of 60_exceptions.md -/

/-- Settles O7: every byte decodes, and every instruction ends in `finishCell`. -/
theorem cellStepNeverStops : Obligations.CellStepNeverStops := fun _ => step_completes_of_rendering

/-- Settles O21: every instruction ends in `finishCell`, and the code and effect before it read the latch and RowState. -/
theorem showCtrlChangesPixelsOnly : Obligations.ShowCtrlChangesPixelsOnly := by
  intro i s b
  obtain ⟨code, actual, effect, -, hfin⟩ := exec_finishes i
  obtain ⟨raster, hb⟩ := finishCell_with_showCtrl (code s.bottomHalf s.rs) actual
    { s with rs := effect s.bottomHalf s.rs } b
  exact ⟨_, _, hfin s, (hfin _).trans (congrArg _ hb), rfl⟩

/-- Settles O50: assets that BUILD accepts would be whole. -/
theorem badAssetsFailTheBlock : Obligations.BadAssetsFailTheBlock := by
  intro s f ks ho hbad
  have hrejected : acceptedAssets f ks = none :=
    Option.eq_none_iff_forall_ne_some.2 fun ⟨f', ks'⟩ h => hbad ⟨f', ks', acceptedAssets_some h⟩
  rw [hostRequest_build (by simp [ho]), hostBuild_of_rejected ho hrejected, raiseError_assetLoadError]

/-- Settles O56: a cell step completes, an idle step too, and of the requests one kind of PAGE write does not. -/
theorem onlyBadPageWritesStop : Obligations.OnlyBadPageWritesStop := by
  intro s
  by_cases ho : s.opstate = .rendering
  · exact .inl (step_completes_of_rendering ho)
  rw [step_of_not_rendering ho]
  cases hreq : s.requests with
  | nil => exact .inl ⟨s, hostMove_of_no_request hreq⟩
  | cons r rest =>
    rw [hostMove_of_requests hreq]
    rcases hostRequest_completes_or_faults (s := { s with requests := rest }) ho r with
      h | ⟨addr, bs, a, rfl, hpast, hfault⟩
    · exact .inl h
    · exact .inr ⟨addr, bs, rest, a, ho, rfl, hpast, hfault⟩

/-- Settles O47: the dimension check comes before anything else, and its error leaves `opstate`. -/
theorem wrongDimensionsRaiseInvalidInput : Obligations.WrongDimensionsRaiseInvalidInput := by
  intro s w h sc fv ho hd
  rw [hostRequest_eq_hostRender (by simp [ho]), hostRender_of_wrong_dimensions ho hd, raiseError_invalidInput]

/-- Settles O48: in a frame every request is refused, and between frames each of these by its own check. -/
theorem wrongRequestsAreRefused : Obligations.WrongRequestsAreRefused := by
  intro s
  refine ⟨fun r ho => hostRequest_of_rendering ho r, fun w h sc fv hnot => hostRequest_refused fun ho => ?_,
    fun f ks hnot => hostRequest_refused fun ho => ?_, fun x y m hout => ?_⟩
  · rw [hostRequest_eq_hostRender ho, hostRender_of_not_ready hnot]
  · rw [hostRequest_build ho, hostBuild_of_not_unbuilt hnot]
  · have hl := sixelLegal_of_not_le hout
    exact ⟨hostRequest_refused fun ho => hostRequest_sixelGet_illegal ho hl,
      hostRequest_refused fun ho => hostRequest_sixelSet_illegal ho hl m,
      hostRequest_refused fun ho => hostRequest_characterCellPixelBounds_illegal ho hl,
      hostRequest_refused fun ho => hostRequest_sixelPixelBounds_illegal ho hl⟩

end Sys2Proof.Machine
